-- ==== Sys2Proof/Word.lean ====
section
/-! DEFINITION. The word types of the RM-SBC and the names of its two ports. -/

namespace Sys2Proof

/-- A byte of a buffer, of the wire or of an 8-bit register. -/
abbrev Byte := BitVec 8

/-- A 16-bit register or the data of a 16-bit access. -/
abbrev Half := BitVec 16

/-- The HT10 code of a host transaction, W<<9 | S<<8 | OFF (R91). -/
abbrev Code := BitVec 10

/-- A tick of the block's time base, one microsecond (R11, R23). -/
abbrev Tick := Nat

/-- The two ports (N_PORTS = 2, R5). -/
inductive Port where
  | port0
  | port1
deriving DecidableEq, Repr

end Sys2Proof
end

