-- ==== Sys2Proof/Syntax.lean ====
section
/-! DEFINITION. The instructions of the RM-SBC: one constructor for each row of the decode tables
R92 (host transactions, HT10) and R93 (commands, CMD8). -/

namespace Sys2Proof

/-- The S bit: an access of 8 or of 16 bits (R91). -/
inductive Width where
  | w8
  | w16
deriving DecidableEq, Repr

/-- The write value `wv`, of 8 or of 16 bits (R91). -/
inductive WData where
  | w8 (b : Byte)
  | w16 (h : Half)
deriving DecidableEq, Repr

/-- What a read of a 16-bit register addresses: its even byte, its odd byte, or both (R65). -/
inductive RLane where
  | lo
  | hi
  | whole
deriving DecidableEq, Repr

/-- What a write of a 16-bit register addresses, with the data it carries (R65, R95). -/
inductive WLane where
  | lo (b : Byte)
  | hi (b : Byte)
  | whole (h : Half)
deriving DecidableEq, Repr

/-- An access of either direction at a row that takes both. -/
inductive Access where
  | read (w : Width)
  | write (d : WData)
deriving DecidableEq, Repr

/-- An 8-bit access of either direction (the RZ rows). -/
inductive Access8 where
  | read
  | write (b : Byte)
deriving DecidableEq, Repr

/-- A 16-bit access of either direction (the MISALIGN16 and WIDE rows). -/
inductive Access16 where
  | read
  | write (h : Half)
deriving DecidableEq, Repr

/-- The instructions: rows 1 to 43 of R92, then the commands of R93 and the reserved command values.
A command constructor stands for the host line `cmd NAME`, which is `wr8 SCMD, v` (R99; log 3). -/
inductive Instr where
  | misalign16 (a : Access16) (off : Byte)
  | rdData (w : Width)
  | wrData (d : WData)
  | rz01 (a : Access8)
  | rz21 (a : Access8)
  | rz29 (a : Access8)
  | rdStat (l : RLane)
  | wrStat (l : WLane)
  | rdMode (l : RLane)
  | wrMode (l : WLane)
  | rdCtrl (l : RLane)
  | wrCtrl (l : WLane)
  | rdBaud (l : RLane)
  | wrBaud (l : WLane)
  | rdIstat (l : RLane)
  | wrIstat (l : WLane)
  | rdScmd (w : Width)
  | wrScmd (d : WData)
  | rdSstat (l : RLane)
  | wrSstat (l : WLane)
  | wide24 (a : Access16)
  | wide26 (a : Access16)
  | rdSaddr
  | wrSaddr (b : Byte)
  | rdSarg
  | wrSarg (b : Byte)
  | rdSreqlen
  | wrSreqlen (b : Byte)
  | rdSmaxresp
  | wrSmaxresp (b : Byte)
  | rdSresplen (w : Width)
  | wrSresplen (d : WData)
  | rdSresult (l : RLane)
  | wrSresult (l : WLane)
  | rdStimeout (l : RLane)
  | wrStimeout (l : WLane)
  | rdReqbuf (w : Width) (k : BitVec 6)
  | wrReqbuf (d : WData) (k : BitVec 6)
  | rdRespbuf (w : Width) (k : BitVec 6)
  | wrRespbuf (d : WData) (k : BitVec 6)
  | rdPkt (w : Width) (k : BitVec 6)
  | wrPkt (d : WData) (k : BitVec 6)
  | unmapped (a : Access) (off : Byte)
  | init
  | select
  | waitack
  | xbyte
  | xchg
  | xnoack
  | poll
  | probe
  | bcast
  | reservedCmd (v : Byte)
deriving DecidableEq, Repr

end Sys2Proof
end

