-- ==== Sys2Proof/WellFormed.lean ====
section
/-! DEFINITION. Which instruction terms the spec has: the operand checks that the shapes of
Syntax.lean do not already make. -/

namespace Sys2Proof

/-- Whether a window offset is one of the unmapped ones (R64). -/
def unmappedOffset (off : Byte) : Bool :=
  let o := off.toNat
  (0x02 ≤ o && o ≤ 0x03) || (0x06 ≤ o && o ≤ 0x07) || (0x0C ≤ o && o ≤ 0x0D)
    || (0x12 ≤ o && o ≤ 0x1F) || (0x2E ≤ o && o ≤ 0x3F)

/-- Whether a command byte is one of the reserved values (R93, R210). -/
def reservedCommand (v : Byte) : Bool :=
  let c := v.toNat
  c == 0x00 || (0x07 ≤ c && c ≤ 0x0F) || 0x13 ≤ c

/-- A 16-bit access of a buffer starts at an even index (R63). -/
def Width.fits (w : Width) (k : BitVec 6) : Bool :=
  match w with
  | .w8 => true
  | .w16 => !k.getLsbD 0

/-- The width of a write value. -/
def WData.width : WData → Width
  | .w8 _ => .w8
  | .w16 _ => .w16

/-- The width of an access of either direction. -/
def Access.width : Access → Width
  | .read w => w
  | .write d => d.width

/-- The terms that stand for a transaction or a command of the spec: MISALIGN16 only at an odd offset
(R156), 16-bit buffer accesses only at an even index (R63), UNMAPPED only at an unmapped offset and
not misaligned (R92, R158), the reserved command only with a reserved value (R210). -/
def Instr.wf : Instr → Bool
  | .misalign16 _ off => off.getLsbD 0
  | .rdReqbuf w k => w.fits k
  | .wrReqbuf d k => d.width.fits k
  | .rdRespbuf w k => w.fits k
  | .wrRespbuf d k => d.width.fits k
  | .rdPkt w k => w.fits k
  | .wrPkt d k => d.width.fits k
  | .unmapped a off => unmappedOffset off && (a.width == .w8 || !off.getLsbD 0)
  | .reservedCmd v => reservedCommand v
  | .rdData _ | .wrData _ | .rz01 _ | .rz21 _ | .rz29 _ | .rdStat _ | .wrStat _ | .rdMode _
  | .wrMode _ | .rdCtrl _ | .wrCtrl _ | .rdBaud _ | .wrBaud _ | .rdIstat _ | .wrIstat _
  | .rdScmd _ | .wrScmd _ | .rdSstat _ | .wrSstat _ | .wide24 _ | .wide26 _ | .rdSaddr
  | .wrSaddr _ | .rdSarg | .wrSarg _ | .rdSreqlen | .wrSreqlen _ | .rdSmaxresp | .wrSmaxresp _
  | .rdSresplen _ | .wrSresplen _ | .rdSresult _ | .wrSresult _ | .rdStimeout _ | .wrStimeout _
  | .init | .select | .waitack | .xbyte | .xchg | .xnoack | .poll | .probe | .bcast => true

end Sys2Proof
end

