-- ==== Sys2Proof/Decode.lean ====
section
/-! DEFINITION. The decoder of a host line (R90 to R93), total on any bytes and rejecting by name, the
encoder written from the same tables, and the assembler forms of R98 to R100.

A host line is a list of bytes: a transaction is its HT10 code as a little-endian 16-bit word whose
bits 15:10 are 0, then for a write its one or two data bytes, low byte first; a command line is the
one byte of CMD8 (log 2, log 3). -/

namespace Sys2Proof

/-- Why a host line is no transaction and no command of the block. -/
inductive DecodeError where
  /-- The code word has a bit set above the ten bits of HT10 (R90). -/
  | codeWidth
  /-- The line carries a number of data bytes that W and S do not call for, so it is an access of a
  size the host port does not have (R65, R120). -/
  | transactionSize
deriving DecidableEq, Repr

/-- The low byte of a 16-bit value. -/
def loByte (h : Half) : Byte := h.setWidth 8

/-- The high byte of a 16-bit value. -/
def hiByte (h : Half) : Byte := (h >>> 8).setWidth 8

/-- The 16-bit value with the given low and high bytes (little-endian, R61). -/
def halfOf (low high : Byte) : Half := high.setWidth 16 <<< 8 ||| low.setWidth 16

/-! ### CMD8 -/

/-- The command opcode map (R93). -/
def decodeCmd8 (v : Byte) : Instr :=
  match v.toNat with
  | 0x01 => .init
  | 0x02 => .select
  | 0x03 => .waitack
  | 0x04 => .xbyte
  | 0x05 => .xchg
  | 0x06 => .xnoack
  | 0x10 => .poll
  | 0x11 => .probe
  | 0x12 => .bcast
  | _ => .reservedCmd v

/-! ### HT10 -/

/-- The fields of a host transaction (R91): W, S, OFF and, for a write, the write value (in its low
byte when S = 0). -/
structure Txn where
  w : Bool
  s : Bool
  off : Byte
  wv : Half
deriving DecidableEq, Repr

/-- The code of a transaction, `W<<9 | S<<8 | OFF` (R91). -/
def Txn.code (t : Txn) : Code :=
  (BitVec.ofBool t.w).setWidth 10 <<< 9 ||| (BitVec.ofBool t.s).setWidth 10 <<< 8
    ||| t.off.setWidth 10

/-- The S bit as a width. -/
def Txn.width (t : Txn) : Width := if t.s then .w16 else .w8

/-- The write value at the transaction's width. -/
def Txn.wdata (t : Txn) : WData := if t.s then .w16 t.wv else .w8 (loByte t.wv)

/-- What a read of a 16-bit register addresses. -/
def Txn.rlane (t : Txn) : RLane := if t.s then .whole else if t.off.getLsbD 0 then .hi else .lo

/-- What a write of a 16-bit register addresses, with its data. -/
def Txn.wlane (t : Txn) : WLane :=
  if t.s then .whole t.wv else if t.off.getLsbD 0 then .hi (loByte t.wv) else .lo (loByte t.wv)

/-- The access of a row that takes both directions and both widths. -/
def Txn.access (t : Txn) : Access := if t.w then .write t.wdata else .read t.width

/-- The access of an RZ row. -/
def Txn.access8 (t : Txn) : Access8 := if t.w then .write (loByte t.wv) else .read

/-- The access of a MISALIGN16 or WIDE row. -/
def Txn.access16 (t : Txn) : Access16 := if t.w then .write t.wv else .read

/-- The byte index in a 64-byte buffer. -/
def Txn.index (t : Txn) : BitVec 6 := t.off.setWidth 6

/-- One row of the HT10 decode table: match, mask, and the instruction it selects. -/
structure Row where
  pattern : Code
  mask : Code
  build : Txn → Instr

/-- Rows 1 to 22 of R92, in order. -/
def rowsA : List Row := [
  ⟨0x101, 0x101, fun t => .misalign16 t.access16 t.off⟩,
  ⟨0x000, 0x2FF, fun t => .rdData t.width⟩,
  ⟨0x200, 0x2FF, fun t => .wrData t.wdata⟩,
  ⟨0x001, 0x0FF, fun t => .rz01 t.access8⟩,
  ⟨0x021, 0x0FF, fun t => .rz21 t.access8⟩,
  ⟨0x029, 0x0FF, fun t => .rz29 t.access8⟩,
  ⟨0x004, 0x2FE, fun t => .rdStat t.rlane⟩,
  ⟨0x204, 0x2FE, fun t => .wrStat t.wlane⟩,
  ⟨0x008, 0x2FE, fun t => .rdMode t.rlane⟩,
  ⟨0x208, 0x2FE, fun t => .wrMode t.wlane⟩,
  ⟨0x00A, 0x2FE, fun t => .rdCtrl t.rlane⟩,
  ⟨0x20A, 0x2FE, fun t => .wrCtrl t.wlane⟩,
  ⟨0x00E, 0x2FE, fun t => .rdBaud t.rlane⟩,
  ⟨0x20E, 0x2FE, fun t => .wrBaud t.wlane⟩,
  ⟨0x010, 0x2FE, fun t => .rdIstat t.rlane⟩,
  ⟨0x210, 0x2FE, fun t => .wrIstat t.wlane⟩,
  ⟨0x020, 0x2FF, fun t => .rdScmd t.width⟩,
  ⟨0x220, 0x2FF, fun t => .wrScmd t.wdata⟩,
  ⟨0x022, 0x2FE, fun t => .rdSstat t.rlane⟩,
  ⟨0x222, 0x2FE, fun t => .wrSstat t.wlane⟩,
  ⟨0x124, 0x1FF, fun t => .wide24 t.access16⟩,
  ⟨0x126, 0x1FF, fun t => .wide26 t.access16⟩]

/-- Rows 23 to 43 of R92, in order. -/
def rowsB : List Row := [
  ⟨0x024, 0x3FF, fun _ => .rdSaddr⟩,
  ⟨0x224, 0x3FF, fun t => .wrSaddr (loByte t.wv)⟩,
  ⟨0x025, 0x3FF, fun _ => .rdSarg⟩,
  ⟨0x225, 0x3FF, fun t => .wrSarg (loByte t.wv)⟩,
  ⟨0x026, 0x3FF, fun _ => .rdSreqlen⟩,
  ⟨0x226, 0x3FF, fun t => .wrSreqlen (loByte t.wv)⟩,
  ⟨0x027, 0x3FF, fun _ => .rdSmaxresp⟩,
  ⟨0x227, 0x3FF, fun t => .wrSmaxresp (loByte t.wv)⟩,
  ⟨0x028, 0x2FF, fun t => .rdSresplen t.width⟩,
  ⟨0x228, 0x2FF, fun t => .wrSresplen t.wdata⟩,
  ⟨0x02A, 0x2FE, fun t => .rdSresult t.rlane⟩,
  ⟨0x22A, 0x2FE, fun t => .wrSresult t.wlane⟩,
  ⟨0x02C, 0x2FE, fun t => .rdStimeout t.rlane⟩,
  ⟨0x22C, 0x2FE, fun t => .wrStimeout t.wlane⟩,
  ⟨0x040, 0x2C0, fun t => .rdReqbuf t.width t.index⟩,
  ⟨0x240, 0x2C0, fun t => .wrReqbuf t.wdata t.index⟩,
  ⟨0x080, 0x2C0, fun t => .rdRespbuf t.width t.index⟩,
  ⟨0x280, 0x2C0, fun t => .wrRespbuf t.wdata t.index⟩,
  ⟨0x0C0, 0x2C0, fun t => .rdPkt t.width t.index⟩,
  ⟨0x2C0, 0x2C0, fun t => .wrPkt t.wdata t.index⟩,
  ⟨0x000, 0x000, fun t => .unmapped t.access t.off⟩]

/-- The HT10 decode table (R92). -/
def rows : List Row := rowsA ++ rowsB

/-- The first row of a table that matches (R92); the table's last row matches every code, so the
value for an empty table is never taken. -/
def decodeRows (t : Txn) : List Row → Instr
  | [] => .unmapped t.access t.off
  | r :: rs => if t.code &&& r.mask = r.pattern then r.build t else decodeRows t rs

/-- The instruction of a host transaction (R92). -/
def decodeTxn (t : Txn) : Instr := decodeRows t rows

/-! ### Host lines -/

/-- The decoder: a command line or a host transaction, or why it is neither. -/
def decode : List Byte → Except DecodeError Instr
  | [] => .error .transactionSize
  | [v] => .ok (decodeCmd8 v)
  | off :: top :: data =>
    if top.toNat ≥ 4 then .error .codeWidth
    else
      match top.getLsbD 1, top.getLsbD 0, data with
      | false, s, [] => .ok (decodeTxn ⟨false, s, off, 0⟩)
      | true, false, [b] => .ok (decodeTxn ⟨true, false, off, b.setWidth 16⟩)
      | true, true, [b0, b1] => .ok (decodeTxn ⟨true, true, off, halfOf b0 b1⟩)
      | _, _, _ => .error .transactionSize

/-! ### Encoding and the assembler syntax (R98 to R100) -/

/-- `rd8 OFF`. -/
def rd8 (off : Byte) : List Byte := [off, 0x00]

/-- `rd16 OFF`. -/
def rd16 (off : Byte) : List Byte := [off, 0x01]

/-- `wr8 OFF, IMM`. -/
def wr8 (off b : Byte) : List Byte := [off, 0x02, b]

/-- `wr16 OFF, IMM`. -/
def wr16 (off : Byte) (h : Half) : List Byte := [off, 0x03, loByte h, hiByte h]

/-- `cmd NAME` as the transaction it abbreviates: `wr8 SCMD, v` (R99). -/
def cmdLine (v : Byte) : List Byte := wr8 0x20 v

/-- The one transaction `waitidle` repeats: `rd16 SSTAT` (R100). -/
def waitidlePoll : List Byte := rd16 0x22

/-- `clrack` (R100). -/
def clrack : List Byte := wr16 0x10 0x0000

/-- `clrerr` (R100). -/
def clrerr : List Byte := wr16 0x22 0x0300

/-- The second line of `ackclr`, after `rd16 CTRL -> c` (R100). -/
def ackclr (c : Half) : List Byte := wr16 0x0A (c ||| 0x0010)

/-- `setbuf REQBUF+k, b0, b1, ...` (R100). -/
def setbuf (k : Nat) : List Byte → List (List Byte)
  | [] => []
  | b :: bs => wr8 (BitVec.ofNat 8 (0x40 + k)) b :: setbuf (k + 1) bs

/-- A read of the given width. -/
def encodeRead (w : Width) (off : Byte) : List Byte :=
  match w with
  | .w8 => rd8 off
  | .w16 => rd16 off

/-- A write of the given value. -/
def encodeWrite (d : WData) (off : Byte) : List Byte :=
  match d with
  | .w8 b => wr8 off b
  | .w16 h => wr16 off h

/-- A read of a 16-bit register at even offset `off`. -/
def encodeRLane (l : RLane) (off : Byte) : List Byte :=
  match l with
  | .lo => rd8 off
  | .hi => rd8 (off + 1)
  | .whole => rd16 off

/-- A write of a 16-bit register at even offset `off`. -/
def encodeWLane (l : WLane) (off : Byte) : List Byte :=
  match l with
  | .lo b => wr8 off b
  | .hi b => wr8 (off + 1) b
  | .whole h => wr16 off h

/-- An access of either direction. -/
def encodeAccess (a : Access) (off : Byte) : List Byte :=
  match a with
  | .read w => encodeRead w off
  | .write d => encodeWrite d off

/-- An 8-bit access of either direction. -/
def encodeAccess8 (a : Access8) (off : Byte) : List Byte :=
  match a with
  | .read => rd8 off
  | .write b => wr8 off b

/-- A 16-bit access of either direction. -/
def encodeAccess16 (a : Access16) (off : Byte) : List Byte :=
  match a with
  | .read => rd16 off
  | .write h => wr16 off h

/-- The window offset of byte `k` of the buffer at `base`. -/
def bufferOffset (base : Byte) (k : BitVec 6) : Byte := base + k.setWidth 8

/-- The encoder: the bytes of a well-formed instruction's host line, from the offsets of R29 and the
fields of R91, and for a command its value in R93. -/
def encode : Instr → List Byte
  | .misalign16 a off => encodeAccess16 a off
  | .rdData w => encodeRead w 0x00
  | .wrData d => encodeWrite d 0x00
  | .rz01 a => encodeAccess8 a 0x01
  | .rz21 a => encodeAccess8 a 0x21
  | .rz29 a => encodeAccess8 a 0x29
  | .rdStat l => encodeRLane l 0x04
  | .wrStat l => encodeWLane l 0x04
  | .rdMode l => encodeRLane l 0x08
  | .wrMode l => encodeWLane l 0x08
  | .rdCtrl l => encodeRLane l 0x0A
  | .wrCtrl l => encodeWLane l 0x0A
  | .rdBaud l => encodeRLane l 0x0E
  | .wrBaud l => encodeWLane l 0x0E
  | .rdIstat l => encodeRLane l 0x10
  | .wrIstat l => encodeWLane l 0x10
  | .rdScmd w => encodeRead w 0x20
  | .wrScmd d => encodeWrite d 0x20
  | .rdSstat l => encodeRLane l 0x22
  | .wrSstat l => encodeWLane l 0x22
  | .wide24 a => encodeAccess16 a 0x24
  | .wide26 a => encodeAccess16 a 0x26
  | .rdSaddr => rd8 0x24
  | .wrSaddr b => wr8 0x24 b
  | .rdSarg => rd8 0x25
  | .wrSarg b => wr8 0x25 b
  | .rdSreqlen => rd8 0x26
  | .wrSreqlen b => wr8 0x26 b
  | .rdSmaxresp => rd8 0x27
  | .wrSmaxresp b => wr8 0x27 b
  | .rdSresplen w => encodeRead w 0x28
  | .wrSresplen d => encodeWrite d 0x28
  | .rdSresult l => encodeRLane l 0x2A
  | .wrSresult l => encodeWLane l 0x2A
  | .rdStimeout l => encodeRLane l 0x2C
  | .wrStimeout l => encodeWLane l 0x2C
  | .rdReqbuf w k => encodeRead w (bufferOffset 0x40 k)
  | .wrReqbuf d k => encodeWrite d (bufferOffset 0x40 k)
  | .rdRespbuf w k => encodeRead w (bufferOffset 0x80 k)
  | .wrRespbuf d k => encodeWrite d (bufferOffset 0x80 k)
  | .rdPkt w k => encodeRead w (bufferOffset 0xC0 k)
  | .wrPkt d k => encodeWrite d (bufferOffset 0xC0 k)
  | .unmapped a off => encodeAccess a off
  | .init => [0x01]
  | .select => [0x02]
  | .waitack => [0x03]
  | .xbyte => [0x04]
  | .xchg => [0x05]
  | .xnoack => [0x06]
  | .poll => [0x10]
  | .probe => [0x11]
  | .bcast => [0x12]
  | .reservedCmd v => [v]

/-! ### The numbering of spec/opcode_table.json -/

/-- The host line whose bits are `w` in the numbering of the opcode table: eight bits are a command
byte, but for 0x21 and 0x29, which no CMD8 row fixes and which are the eight bits that the RZ.21 and
RZ.29 rows fix; more are the HT10 code (bit 0 its least significant bit) followed by the data bytes
that its W and S bits call for, from the bits above (log 14). -/
def tableLine (nbits w : Nat) : List Byte :=
  let byte (k : Nat) : Byte := BitVec.ofNat 8 (w / 2 ^ (8 * k))
  if nbits ≤ 8 then
    if byte 0 = 0x21 || byte 0 = 0x29 then [byte 0, 0x00] else [byte 0]
  else
    match w.testBit 9, w.testBit 8 with
    | false, _ => [byte 0, byte 1]
    | true, false => [byte 0, byte 1, byte 2]
    | true, true => [byte 0, byte 1, byte 2, byte 3]

/-- The instruction the decoder reads from a word of the opcode table. -/
def decodeTableWord (nbits w : Nat) : Option Instr :=
  match decode (tableLine nbits w) with
  | .ok i => some i
  | .error _ => none

end Sys2Proof
end

