-- ==== Sys2Proof/Config.lean ====
section
/-! DEFINITION. The parameters of the RM-SBC: the values the spec fixes (R5, R6), the OPEN parameters
the model takes as an argument (R7), and the draws (R8) as constants without a body. -/

namespace Sys2Proof

/-- WIRE_BIT_ORDER: which bit of a byte is first on the wire (R7, R62). The spec says only that the wire
parameters are enumerations; the names of their values are the model's (log 16). -/
inductive WireBitOrder where
  | lsbFirst
  | msbFirst
deriving DecidableEq, Repr, Inhabited

/-- SCLK_POLARITY: the level of the idle shift clock (R7; log 16). -/
inductive ClockPolarity where
  | idleLow
  | idleHigh
deriving DecidableEq, Repr, Inhabited

/-- SCLK_PHASE: the clock edge at which a bit is sampled (R7; log 16). -/
inductive ClockPhase where
  | leadingEdge
  | trailingEdge
deriving DecidableEq, Repr, Inhabited

/-- ATTN_POLARITY and ACK_POLARITY: the level that asserts the line (R7; log 16). -/
inductive LinePolarity where
  | activeLow
  | activeHigh
deriving DecidableEq, Repr, Inhabited

/-- The OPEN parameters (R7). The five wire parameters are arguments of the model that no rule reads
(R4 (g); log 16). A `Params` is constant in every run: the state carries it (log 8). -/
structure Params where
  /-- SYSCLK_HZ, "fixed system clock" frequency. -/
  sysclkHz : Nat
  /-- BYTE_US, ticks from the start of a byte's shift to its completion. -/
  byteUs : Nat
  /-- RXFIFO_DEPTH, receive FIFO depth in bytes. -/
  rxFifoDepth : Nat
  /-- T_PRE_US, "brief pre-assertion delay". -/
  tPreUs : Nat
  /-- T_TRAIL_US, "trailing delay" before attention release. -/
  tTrailUs : Nat
  /-- T_POST_US, "short post-release delay". -/
  tPostUs : Nat
  /-- T_IBD_US, "fixed inter-byte delay" of XNOACK. -/
  tIbdUs : Nat
  /-- ADDR_PAD, input-controller class code. -/
  addrPad : Byte
  /-- ADDR_CARD, storage-card class code. -/
  addrCard : Byte
  /-- CMD_POLL, poll-command code. -/
  cmdPoll : Byte
  /-- CMD_PROBE, probe-command code. -/
  cmdProbe : Byte
  /-- CMD_SENDID, send-identifier command code. -/
  cmdSendId : Byte
  /-- MARK_PAD, poll response byte 1 marker. -/
  markPad : Byte
  /-- MARK_C2, probe response byte 2 marker. -/
  markC2 : Byte
  /-- MARK_C3, probe response byte 3 marker. -/
  markC3 : Byte
  /-- PROBE_REQ4, fifth byte of the probe request. -/
  probeReq4 : Byte
  /-- HOST_BASE, base address of the 256-byte host window. -/
  hostBase : Nat
  /-- WIRE_BIT_ORDER, read by no rule. -/
  wireBitOrder : WireBitOrder
  /-- SCLK_POLARITY, read by no rule. -/
  sclkPolarity : ClockPolarity
  /-- SCLK_PHASE, read by no rule. -/
  sclkPhase : ClockPhase
  /-- ATTN_POLARITY, read by no rule. -/
  attnPolarity : LinePolarity
  /-- ACK_POLARITY, read by no rule. -/
  ackPolarity : LinePolarity
deriving DecidableEq, Repr, Inhabited

/-- The constraints R7 puts on the OPEN parameters. -/
abbrev Params.Ok (p : Params) : Prop :=
  250000 ≤ p.sysclkHz ∧ 1 ≤ p.byteUs ∧ 1 ≤ p.rxFifoDepth ∧ p.addrCard ≠ p.addrPad

/-- The legal parameters nearest to `p`: `p` itself where it meets the constraints of R7 (log 8). -/
def Params.legal (p : Params) : Params :=
  { p with
    sysclkHz := max 250000 p.sysclkHz
    byteUs := max 1 p.byteUs
    rxFifoDepth := max 1 p.rxFifoDepth
    addrCard := if p.addrCard = p.addrPad then p.addrPad + 1 else p.addrCard }

namespace Config

/-- The OPEN parameters of the block: nothing is known of them (R7, log 8). -/
opaque openParams : Params

/-- The byte on the data-in line when a shift completes at tick `t`, where no scripted device input
gives it: `draw_rx()`, RX_IDLE among its values (R8, R27; a free value, log 5). -/
opaque rxDraw : Tick → Byte

/-- Whether the acknowledge line pulses at tick `t`, where no scripted device input says so:
`ack_in(t)` (R8, R27; a free value, log 5). -/
opaque ackDraw : Tick → Bool

/-- What the buffer byte at window offset `off` holds after the `k`-th block reset (power-on is the
0th) until it is written (R41, R340; a free value, log 7). -/
opaque bufferDraw : (k off : Nat) → Byte

/-- Whether a BCAST with port mask 0 that starts at tick `t` leaves CTRL.ATTN asserted where the host has
asserted it. By R265 it does, by R237 it does not, and the spec has no ruling (a free value, log 17). -/
opaque emptyBcastKeepsAttn : Tick → Bool

/-- BIT_RATE_HZ (R5). -/
def bitRateHz : Nat := 250000

/-- POLL_REQ_LEN (R5). -/
def pollReqLen : Nat := 4

/-- POLL_RESP_CAP (R5). -/
def pollRespCap : Nat := 32

/-- POLL_MIN_RESP (R5). -/
def pollMinResp : Nat := 4

/-- PROBE_REQ_LEN (R5). -/
def probeReqLen : Nat := 5

/-- PROBE_RESP_CAP (R5). -/
def probeRespCap : Nat := 5

/-- PROBE_RESP_EXACT (R5). -/
def probeRespExact : Nat := 5

/-- BCAST_HDR (R5). -/
def bcastHdr : Nat := 3

/-- REQ_CAP (R5). -/
def reqCap : Nat := 64

/-- RESP_CAP (R6). -/
def respCap : Nat := 64

/-- PKT_CAP (R6). -/
def pktCap : Nat := 64

/-- ACK_POLL_US (R6). -/
def ackPollUs : Nat := 10

/-- T_ACK_US (R6). -/
def tAckUs : Nat := 120

/-- T_SETTLE_US (R6). -/
def tSettleUs : Nat := 150

/-- CLEAR_LATCH_AT_START (R6). -/
def clearLatchAtStart : Bool := true

end Config

/-- The reference values of R7, a test configuration and no claim about the hardware. Only tests use
it. HOST_BASE and the wire parameters have no reference value and stay open. -/
def Params.ref : Params :=
  { Config.openParams with
    sysclkHz := 33868800
    byteUs := 32
    rxFifoDepth := 8
    tPreUs := 20
    tTrailUs := 20
    tPostUs := 20
    tIbdUs := 20
    addrPad := 0x01
    addrCard := 0x81
    cmdPoll := 0x42
    cmdProbe := 0xA0
    cmdSendId := 0xA1
    markPad := 0x5A
    markC2 := 0x5A
    markC3 := 0x5D
    probeReq4 := 0x00 }

end Sys2Proof
end

