-- ==== Sys2Proof/Machine/State.lean ====
section
/-! DEFINITION. The state of the RM-SBC as plain data, why a step can stop, and the state after the
block reset at power-on. -/

namespace Sys2Proof.Machine

/-- The commands (R93). CUR is one of these or none (R44). -/
inductive Cmd where
  | init
  | select
  | waitack
  | xbyte
  | xchg
  | xnoack
  | poll
  | probe
  | bcast
deriving DecidableEq, Repr

/-- The command error codes SSTAT.ERR can hold (R300); codes 5 to 15 are never produced. -/
inductive ErrCode where
  /-- NONE, code 0. -/
  | noError
  /-- ILLCMD, code 1. -/
  | illCmd
  /-- NOTREADY, code 2. -/
  | notReady
  /-- RANGE, code 3. -/
  | range
  /-- IDLEN, code 4. -/
  | idLen
deriving DecidableEq, Repr

/-- The sequencer state SEQ.STATE, the program-counter analogue (R22); codes 13 to 15 are never
entered. -/
inductive SeqState where
  | idle
  | pre
  | settle
  | addr
  | addrAck
  | xfer
  | dataAck
  | trail
  | post
  | naByte
  | naIbd
  | waitCmd
  | byteCmd
deriving DecidableEq, Repr

/-- What a suspended sequencer waits for (R44, R201): a tick, TXRDY, or RXRDY. -/
inductive Susp where
  | untilTick (t : Tick)
  | txReady
  | rxReady
deriving DecidableEq, Repr

/-- The request source SRC of a packet routine (R44). -/
inductive ReqSrc where
  | reqbuf
  | pkt
deriving DecidableEq, Repr

/-- A wire event (R26). -/
inductive WireEvent where
  /-- A byte was loaded into the shifter at tick `t`, with CTRL.PORT and CTRL.ATTN as given. -/
  | shift (t : Tick) (port : Port) (attn : Bool) (byte : Byte)
  /-- The attention line of a port changed to `level` at tick `t`. -/
  | attn (t : Tick) (port : Port) (level : Bool)
  /-- The acknowledge line pulsed at tick `t`. -/
  | ack (t : Tick)
deriving DecidableEq, Repr

/-- What the host does next: one line (a transaction or a command, as bytes), or ending its host
phase so that the next tick begins (R24; log 1). -/
inductive HostEvent where
  | line (bytes : List Byte)
  | endPhase
deriving DecidableEq, Repr

/-- The devices' inputs of one tick: whether the acknowledge line pulses, and the byte on the data-in
line should a shift complete (R27; log 5). -/
structure DevInput where
  ack : Bool
  rx : Byte
deriving DecidableEq, Repr

/-- The transceiver: the CTRL, MODE and BAUD fields (R30, R31, R32), the transmit and receive state
(R42) and the channel acknowledge latch (R43). -/
structure Xcvr where
  /-- CTRL.TXEN. -/
  txen : Bool
  /-- CTRL.ATTN. -/
  attn : Bool
  /-- CTRL.RXEN. -/
  rxen : Bool
  /-- CTRL.ACKIE. -/
  ackie : Bool
  /-- CTRL.PORT. -/
  port : Port
  /-- MODE.MULT. -/
  mult : BitVec 2
  /-- MODE.CHLEN. -/
  chlen : BitVec 2
  /-- BAUD. -/
  baud : Half
  /-- TXH, the TX holding register. -/
  txh : Option Byte
  /-- SH, the shifter: the byte and the tick at which its shift completes. -/
  sh : Option (Byte × Tick)
  /-- RXF, the RX FIFO, head first. -/
  rxf : List Byte
  /-- STAT.RXOVR. -/
  rxovr : Bool
  /-- STAT.IRQ. -/
  irq : Bool
deriving DecidableEq, Repr

/-- The sequencer's internal state (R44), with P (R200) and the byte a waiting XB is to send (log 12). -/
structure Sequencer where
  /-- CUR. -/
  cur : Option Cmd
  /-- A, the address byte. -/
  addr : Byte
  /-- RL0, the request length. -/
  rl0 : Nat
  /-- M, the response capacity. -/
  cap : Nat
  /-- P, the port operand (R200). -/
  port : Port
  /-- PM, the port mask. -/
  mask : BitVec 2
  /-- TO, the timeout. -/
  timeout : Half
  /-- n, bytes exchanged. -/
  n : Nat
  /-- i, the request index; also the loop index of XNA. -/
  i : Nat
  /-- rl, request bytes remaining. -/
  rl : Nat
  /-- rem, the waiter budget. -/
  rem : Int
  /-- SUSP. -/
  susp : Option Susp
  /-- p, the command-layer loop index. -/
  loopPort : Port
  /-- pm, the presence accumulator. -/
  presence : BitVec 2
  /-- SRC. -/
  src : ReqSrc
  /-- The byte the running XB is to send (the model's own, log 12). -/
  xbByte : Byte
deriving DecidableEq, Repr

/-- The buffers as (window offset, byte) pairs, strictly rising, offsets 0x40 to 0xFF (R41; log 7). -/
abbrev Memory := List Host.Cell

/-- The machine. -/
structure State where
  /-- The OPEN parameters (R7), which no step changes (log 8). -/
  cfg : Params
  /-- The tick counter (R23). -/
  now : Tick
  /-- The transceiver. -/
  xc : Xcvr
  /-- ISTAT.ACK (R35). -/
  ack : Bool
  /-- SCMD (R36). -/
  scmd : Byte
  /-- SSTAT.BUSY (R37). -/
  busy : Bool
  /-- SSTAT.DONE (R37). -/
  done : Bool
  /-- SSTAT.ERR (R37, R300). -/
  err : ErrCode
  /-- SSTAT.WERR (R37, R306). -/
  werr : Bool
  /-- SSTAT.AERR (R37, R306). -/
  aerr : Bool
  /-- SSTAT.STATE (R22, R37). -/
  st : SeqState
  /-- SADDR (R38). -/
  saddr : Byte
  /-- SARG (R38). -/
  sarg : Byte
  /-- SREQLEN (R38). -/
  sreqlen : Byte
  /-- SMAXRESP (R38). -/
  smaxresp : Byte
  /-- SRESPLEN (R39). -/
  sresplen : Byte
  /-- SRESULT (R39). -/
  sresult : Half
  /-- STIMEOUT (R40). -/
  stimeout : Half
  /-- REQBUF, RESPBUF and PKT (R41). -/
  mem : Memory
  /-- The sequencer's internal state (R44). -/
  seq : Sequencer
  /-- The wire event record, oldest first (R26). -/
  wire : List WireEvent
  /-- The value the last host read returned (the model's own, log 4). -/
  rdata : Half
  /-- What the host does next, soonest first (the model's own, log 1). -/
  host : List HostEvent
  /-- The devices' inputs of the coming ticks, soonest first; after the list's end they are draws
  (the model's own, log 5). -/
  dev : List DevInput
  /-- How many block resets there have been since power-on (the model's own, log 7). -/
  resets : Nat
deriving DecidableEq, Repr

/-- Why the machine could stop with a fault: there is no way. No event of the block traps and
nothing in the block is ever stuck (R304, 93 part B), so this closed type has no constructor (log 11). -/
inductive Fault where
deriving DecidableEq, Repr

/-- Why a host line has no meaning. -/
inductive Refusal where
  /-- An instruction that exec gives no meaning yet. Raised by exec's arms alone; safe. -/
  | notModelled (mnemonic : String)
  /-- A host write of DATA while `LineOK()` is false: "refused by the model: the model has no step for
  it" (R123, R170). Raised by WR.DATA; safe: no claim about such a run can be proved. -/
  | lineNotOk
  /-- A host line that carries a number of data bytes other than its W and S bits call for: an access
  of a size other than 1 or 2 bytes, which "a model refuses" (R65, R120). Raised by step; safe. -/
  | transactionSize
  /-- A host line whose code word is wider than the ten bits of HT10, so no transaction (R90; log 2).
  Raised by step; safe. -/
  | codeWidth
deriving DecidableEq, Repr

/-- The transceiver after a transceiver reset or a block reset (R177, R340). -/
def Xcvr.reset : Xcvr where
  txen := false
  attn := false
  rxen := false
  ackie := false
  port := .port0
  mult := 0
  chlen := 0
  baud := 0
  txh := none
  sh := none
  rxf := []
  rxovr := false
  irq := false

/-- The sequencer's internal state after a block reset: "All are none or 0 at reset" (R44, R340). -/
def Sequencer.reset : Sequencer where
  cur := none
  addr := 0
  rl0 := 0
  cap := 0
  port := .port0
  mask := 0
  timeout := 0
  n := 0
  i := 0
  rl := 0
  rem := 0
  susp := none
  loopPort := .port0
  presence := 0
  src := .reqbuf
  xbByte := 0

/-- The machine right after the block reset at power-on (R340), in the host phase of tick 0 (log 6). -/
def State.reset : State where
  cfg := Config.openParams.legal
  now := 0
  xc := Xcvr.reset
  ack := false
  scmd := 0
  busy := false
  done := false
  err := .noError
  werr := false
  aerr := false
  st := .idle
  saddr := 0
  sarg := 0
  sreqlen := 0
  smaxresp := 0
  sresplen := 0
  sresult := 0
  stimeout := 0
  mem := []
  seq := Sequencer.reset
  wire := []
  rdata := 0
  host := []
  dev := []
  resets := 0

end Sys2Proof.Machine
end

