-- ==== Sys2Proof/Machine/Flags.lean ====
section
/-! DEFINITION. The words of the status and control registers, computed from the fields (R22, R30 to
R37, R300), and the block's outputs (R25). -/

namespace Sys2Proof.Machine

/-- The bit of a port: port 1 is 1. -/
def portBit (p : Port) : Bool :=
  match p with
  | .port0 => false
  | .port1 => true

/-- The port a bit selects. -/
def portOfBit (b : Bool) : Port := if b then .port1 else .port0

/-- The 16-bit word with bit `k` equal to `b` and every other bit 0. -/
def bitAt (b : Bool) (k : Nat) : Half := (BitVec.ofBool b).setWidth 16 <<< k

/-- The code of an error (R300). -/
def errBits (e : ErrCode) : BitVec 4 :=
  match e with
  | .noError => 0
  | .illCmd => 1
  | .notReady => 2
  | .range => 3
  | .idLen => 4

/-- The code of a sequencer state (R22). -/
def stateBits (st : SeqState) : BitVec 4 :=
  match st with
  | .idle => 0
  | .pre => 1
  | .settle => 2
  | .addr => 3
  | .addrAck => 4
  | .xfer => 5
  | .dataAck => 6
  | .trail => 7
  | .post => 8
  | .naByte => 9
  | .naIbd => 10
  | .waitCmd => 11
  | .byteCmd => 12

/-- STAT.TXRDY: the TX holding register is empty (R33). -/
def Xcvr.txRdy (x : Xcvr) : Bool := x.txh.isNone

/-- STAT.RXRDY: the RX FIFO is non-empty (R33). -/
def Xcvr.rxRdy (x : Xcvr) : Bool := !x.rxf.isEmpty

/-- STAT.TXIDLE: the TX holding register is empty and the shifter is idle (R33). -/
def Xcvr.txIdle (x : Xcvr) : Bool := x.txh.isNone && x.sh.isNone

/-- STAT as a host reads it (R33, R125). -/
def statWord (x : Xcvr) : Half :=
  bitAt x.irq 9 ||| bitAt x.rxovr 3 ||| bitAt x.txIdle 2 ||| bitAt x.rxRdy 1 ||| bitAt x.txRdy 0

/-- CTRL as a host reads it: ACKCLR, RESET and the reserved bits read 0 (R30, R127). -/
def ctrlWord (x : Xcvr) : Half :=
  bitAt (portBit x.port) 13 ||| bitAt x.ackie 12 ||| bitAt x.rxen 2 ||| bitAt x.attn 1 ||| bitAt x.txen 0

/-- MODE as a host reads it: bits 15:4 read 0 (R31, R129). -/
def modeWord (x : Xcvr) : Half := x.chlen.setWidth 16 <<< 2 ||| x.mult.setWidth 16

/-- ISTAT as a host reads it (R35, R133). -/
def istatWord (ack : Bool) : Half := bitAt ack 7

/-- SSTAT as a host reads it (R37, R137). -/
def sstatWord (s : State) : Half :=
  (stateBits s.st).setWidth 16 <<< 12 ||| bitAt s.aerr 9 ||| bitAt s.werr 8
    ||| (errBits s.err).setWidth 16 <<< 4 ||| bitAt s.done 1 ||| bitAt s.busy 0

/-- The level of port `p`'s attention line under the given CTRL.ATTN and CTRL.PORT (R25, R174). -/
def attnLevel (attn : Bool) (port p : Port) : Bool := attn && port == p

/-- The output `attn[p]` (R25). -/
def State.attnLine (s : State) (p : Port) : Bool := attnLevel s.xc.attn s.xc.port p

/-- The interrupt output `ack_irq` (R25, R302). -/
def State.ackIrq (s : State) : Bool := s.ack

/-- The byte on the data-out stream: the byte in the shifter (R25). -/
def State.dataOut (s : State) : Option Byte := s.xc.sh.map Prod.fst

/-- Whether the shift clock runs: while a byte shifts (R25). -/
def State.shiftClock (s : State) : Bool := s.xc.sh.isSome

/-- The divisor MODE.MULT selects; 0 is reserved (R31). -/
def multFactor (mult : BitVec 2) : Option Nat :=
  match mult.toNat with
  | 1 => some 1
  | 2 => some 16
  | 3 => some 64
  | _ => none

/-- The bit rate `SYSCLK_HZ / (BAUD × MULT)` as the pair of its two terms, where both divisors have a
meaning (R32). No other rule reads it: the byte time is BYTE_US (R171). -/
def State.bitRate (s : State) : Option (Nat × Nat) :=
  match multFactor s.xc.mult with
  | some f => if s.xc.baud = 0 then none else some (s.cfg.sysclkHz, s.xc.baud.toNat * f)
  | none => none

/-- `LineOK()` (R170). -/
def Xcvr.lineOk (x : Xcvr) : Bool := x.mult != 0 && x.chlen == 3 && x.baud != 0

/-- `Configured()` (R170). -/
def Xcvr.configured (x : Xcvr) : Bool := x.lineOk && x.txen && x.rxen

end Sys2Proof.Machine
end

