-- ==== Sys2Proof/Machine/Operands.lean ====
section
/-! DEFINITION. The operand forms: what a read returns of a register (R120), how a write merges into a
register (R95), and the operands of a command (R94). -/

namespace Sys2Proof.Machine

/-- What a read of a 16-bit register with value `x` returns, zero-extended: its even byte, its odd
byte, or all of it (R120). -/
def readLane (l : RLane) (x : Half) : Half :=
  match l with
  | .lo => (loByte x).setWidth 16
  | .hi => (hiByte x).setWidth 16
  | .whole => x

/-- `Merge`: the new value of a 16-bit register whose current value is `x` (R95). -/
def merge (l : WLane) (x : Half) : Half :=
  match l with
  | .lo b => halfOf b (hiByte x)
  | .hi b => halfOf (loByte x) b
  | .whole h => h

/-- The byte a write puts in the register's low byte, if it writes that byte (R95). -/
def laneLow (l : WLane) : Option Byte :=
  match l with
  | .lo b => some b
  | .hi _ => none
  | .whole h => some (loByte h)

/-- The byte a write puts in the register's high byte, if it writes that byte (R95). -/
def laneHigh (l : WLane) : Option Byte :=
  match l with
  | .lo _ => none
  | .hi b => some b
  | .whole h => some (hiByte h)

/-- `wv[7:0]` (R95). -/
def dataLow (d : WData) : Byte :=
  match d with
  | .w8 b => b
  | .w16 h => loByte h

/-- The command a byte written to SCMD selects, if it is not reserved (R93). -/
def cmdOfByte (v : Byte) : Option Cmd :=
  match v.toNat with
  | 0x01 => some .init
  | 0x02 => some .select
  | 0x03 => some .waitack
  | 0x04 => some .xbyte
  | 0x05 => some .xchg
  | 0x06 => some .xnoack
  | 0x10 => some .poll
  | 0x11 => some .probe
  | 0x12 => some .bcast
  | _ => none

/-- The bus commands, those that shift bytes on the wire (R93). -/
def Cmd.bus (c : Cmd) : Bool :=
  match c with
  | .xbyte | .xchg | .xnoack | .poll | .probe | .bcast => true
  | .init | .select | .waitack => false

/-- The port operand `SARG[0]` (R94). -/
def portOperand (sarg : Byte) : Port := portOfBit (sarg.getLsbD 0)

/-- The port mask operand `SARG[1:0]` (R94). -/
def maskOperand (sarg : Byte) : BitVec 2 := sarg.setWidth 2

/-- Whether a port's bit is set in a mask. -/
def inMask (mask : BitVec 2) (p : Port) : Bool :=
  match p with
  | .port0 => mask.getLsbD 0
  | .port1 => mask.getLsbD 1

/-- `1 << p` in a presence mask (R263). -/
def portMask (p : Port) : BitVec 2 :=
  match p with
  | .port0 => 1
  | .port1 => 2

/-- The window offset of a platform address, if the address lies in the host window (R60). -/
def windowOffset (p : Params) (address : Nat) : Option Byte :=
  if p.hostBase ≤ address ∧ address < p.hostBase + 256 then
    some (BitVec.ofNat 8 (address - p.hostBase))
  else none

end Sys2Proof.Machine
end

