-- ==== Sys2Proof/Machine/Ops.lean ====
section
/-! DEFINITION. The named operations over memory, the error bits, the wire record, the transceiver, the
port multiplexer and the acknowledge latch (R41, R170 to R178, R306, R341). -/

namespace Sys2Proof.Machine

/-! ### The buffers -/

/-- Every offset of the list is at least `lo`, below 0x100, and above the one before it. -/
def wfFrom (lo : Nat) : Memory → Bool
  | [] => true
  | (a, _) :: m => lo ≤ a && a < 0x100 && wfFrom (a + 1) m

/-- The canonical form: offsets strictly rising, all within the buffers, 0x40 to 0xFF. An unlisted
offset has no value of its own (its byte is a draw), so no entry can equal it (log 7). -/
def Memory.wf (m : Memory) : Bool := wfFrom 0x40 m

/-- The byte listed at an offset, if one is. -/
def lookup (m : Memory) (a : Nat) : Option Byte :=
  match m with
  | [] => none
  | (a', b) :: m' => if a' = a then some b else lookup m' a

/-- The list with the byte at an offset replaced, in order. -/
def store (m : Memory) (a : Nat) (b : Byte) : Memory :=
  match m with
  | [] => [(a, b)]
  | (a', b') :: m' =>
    if a < a' then (a, b) :: (a', b') :: m'
    else if a = a' then (a, b) :: m'
    else (a', b') :: store m' a b

/-- The byte at a window offset of the buffers: the byte last written there since the block reset, or
the draw of that reset (R41, R340; log 7). -/
def State.readByte (s : State) (a : Nat) : Byte :=
  (lookup s.mem a).getD (Config.bufferDraw s.resets a)

/-- Write a byte at a window offset of the buffers. -/
def State.writeByte (s : State) (a : Nat) (b : Byte) : State :=
  { s with mem := store s.mem a b }

/-- The window offset of byte `k` of REQBUF. Every index a rule names is below 64 (R232); `% 64` only
makes the function total (log 13). -/
def reqbufAt (k : Nat) : Nat := 0x40 + k % 64

/-- The window offset of byte `k` of RESPBUF (as `reqbufAt`). -/
def respbufAt (k : Nat) : Nat := 0x80 + k % 64

/-- The window offset of byte `k` of PKT (as `reqbufAt`). -/
def pktAt (k : Nat) : Nat := 0xC0 + k % 64

/-- `PKT[k..] <- bytes` (R261, R263, R265). -/
def State.writePkt (s : State) (k : Nat) (bytes : List Byte) : State :=
  match bytes with
  | [] => s
  | b :: bs => (s.writeByte (pktAt k) b).writePkt (k + 1) bs

/-- `SRC[k]` (R44). -/
def State.srcByte (s : State) (k : Nat) : Byte :=
  match s.seq.src with
  | .reqbuf => s.readByte (reqbufAt k)
  | .pkt => s.readByte (pktAt k)

/-- The index of the first 0x00 in REQBUF[0..63], if there is one (R265, R266). -/
def State.textLength (s : State) : Option Nat :=
  (List.range 64).find? (fun k => s.readByte (reqbufAt k) == 0)

/-- `IdOK()` (R266). -/
def State.idOk (s : State) : Bool :=
  match s.textLength with
  | some ls => Config.bcastHdr + (ls + 1) ≤ Config.reqCap
  | none => false

/-! ### What a transaction reports instead of an exception (R304, R306) -/

/-- `raise WERR`: a host access made while BUSY had no effect (R121, R306). -/
def State.raiseWerr (s : State) : State := { s with werr := true }

/-- `raise AERR`: a host access was not accepted (R306). -/
def State.raiseAerr (s : State) : State := { s with aerr := true }

/-- `ret x`: the value a host read returns (R120; log 4). -/
def State.ret (s : State) (x : Half) : State := { s with rdata := x }

/-! ### The wire record and the port multiplexer -/

/-- `record e` (R26). -/
def State.record (s : State) (e : WireEvent) : State := { s with wire := s.wire ++ [e] }

/-- The Attn events of a change of CTRL.ATTN and CTRL.PORT, the falling line first (R26, R174). -/
def attnEvents (now : Tick) (attn : Bool) (port : Port) (attn' : Bool) (port' : Port) :
    List WireEvent :=
  let falls (p : Port) := attnLevel attn port p && !attnLevel attn' port' p
  let rises (p : Port) := !attnLevel attn port p && attnLevel attn' port' p
  ([Port.port0, Port.port1].filter falls).map (fun p => .attn now p false)
    ++ ([Port.port0, Port.port1].filter rises).map (fun p => .attn now p true)

/-- CTRL.ATTN and CTRL.PORT take new values; the attention lines follow at once and each change of a
line is recorded (R174). -/
def State.driveAttn (s : State) (attn : Bool) (port : Port) : State :=
  { s with
    xc := { s.xc with attn := attn, port := port }
    wire := s.wire ++ attnEvents s.now s.xc.attn s.xc.port attn port }

/-! ### The transceiver -/

/-- `TryLoad()`: the holding register moves into the idle shifter (R171). -/
def State.tryLoad (s : State) : State :=
  match s.xc.txh, s.xc.sh with
  | some b, none =>
    if s.xc.txen && s.xc.lineOk then
      { s with
        xc := { s.xc with txh := none, sh := some (b, s.now + s.cfg.byteUs) }
        wire := s.wire ++ [.shift s.now s.xc.port s.xc.attn b] }
    else s
  | _, _ => s

/-- The received byte enters the FIFO, is dropped on overrun, or is discarded with RXEN = 0 (R172). -/
def State.receive (s : State) (rx : Byte) : State :=
  if s.xc.rxen then
    if s.xc.rxf.length < s.cfg.rxFifoDepth then
      { s with xc := { s.xc with rxf := s.xc.rxf ++ [rx] } }
    else { s with xc := { s.xc with rxovr := true } }
  else s

/-- `Complete()`: the byte in the shifter is done, the byte on the data-in line is `rx` (R172). -/
def State.complete (s : State) (rx : Byte) : State :=
  (State.receive { s with xc := { s.xc with sh := none } } rx).tryLoad

/-- The transceiver phase of the current tick (R24, R172). -/
def State.transceiverPhase (s : State) (rx : Byte) : State :=
  match s.xc.sh with
  | some (_, t) => if t = s.now then s.complete rx else s
  | none => s

/-- `TransceiverReset()` (R177). CTRL.ATTN falls with its line, which is recorded. -/
def State.transceiverReset (s : State) : State :=
  { s.driveAttn false .port0 with xc := Xcvr.reset }

/-! ### The acknowledge latch -/

/-- The acknowledge phase of the current tick, where `pulse` is `ack_in(now)` (R175). -/
def State.ackPhase (s : State) (pulse : Bool) : State :=
  if pulse then
    let s := s.record (.ack s.now)
    if s.xc.ackie && !s.xc.irq then { s with xc := { s.xc with irq := true }, ack := true } else s
  else s

/-- `AckClear()` (R176). -/
def State.ackClear (s : State) : State :=
  { s with xc := { s.xc with irq := false, rxovr := false } }

/-! ### The block reset -/

/-- The block reset: the state of R340 at once, whatever the block is doing. The tick counter and the
wire record stay, and the fall of an attention line is recorded (R340, R341). The parameters, what
the host and the devices do next and the host's last read value are not the block's (log 10). -/
def State.blockReset (s : State) : State :=
  { State.reset with
    cfg := s.cfg
    now := s.now
    wire := (s.driveAttn false .port0).wire
    rdata := s.rdata
    host := s.host
    dev := s.dev
    resets := s.resets + 1 }

end Sys2Proof.Machine
end

