-- ==== Sys2Proof/Machine/Sequencer.lean ====
section
/-! DEFINITION. The sequencer: the zero-time actions of the command bodies between two suspensions, the
suspension conditions, the START of a command and the sequencer phase (R200 to R209, R230, R235,
R261 to R266). -/

namespace Sys2Proof.Machine

/-- A point of a command body: the zero-time action the sequencer does next. A point whose routine
is shared by several commands (the byte exchange, the waiter, the release of attention) goes on
where STATE or CUR says. -/
inductive Act where
  /-- XP from its first line (R230). -/
  | xpStart
  /-- XP after T_PRE_US (R230). -/
  | preDone
  /-- XP after T_SETTLE_US (R230). -/
  | settleDone
  /-- XP's `while n < M` (R230). -/
  | xpNextByte
  /-- XNA from its first line (R235). -/
  | xnaStart
  /-- XNA's `for k` (R235). -/
  | xnaNextByte
  /-- STATE <- TRAIL and its delay (R230, R235). -/
  | trail
  /-- After T_TRAIL_US: attention is released (R230, R235). -/
  | trailDone
  /-- After T_POST_US: the routine returns to its command (R230, R235). -/
  | postDone
  /-- PROBE's exchange on port p (R263). -/
  | probePort
  /-- BCAST's send on port p (R265). -/
  | bcastPort
  /-- XB(v) from its first line (R202). -/
  | xbBegin (v : Byte)
  /-- XB once TXRDY holds (R202). -/
  | xbSend
  /-- XB's wait for RXRDY (R202). -/
  | xbReceive
  /-- XB has returned r (R202). -/
  | xbReturn (r : Byte)
  /-- WAIT(T) from its first line (R203). -/
  | waitBegin (budget : Nat)
  /-- The head of WAIT's loop (R203). -/
  | waitCheck
  /-- WAIT after ACK_POLL_US (R203). -/
  | waitSlept
  /-- WAIT has returned (R203). -/
  | waitReturn (ok : Bool)
deriving DecidableEq, Repr

/-- `state <- S` (R10, R22). -/
def State.enter (s : State) (st : SeqState) : State := { s with st := st }

/-- Set SUSP (R201). -/
def State.suspend (s : State) (w : Susp) : State :=
  { s with seq := { s.seq with susp := some w } }

/-- `delay(d)`, then go on at `k`: with d = 0 it does nothing (R201). -/
def State.delayThen (s : State) (d : Nat) (k : Act) : State × Option Act :=
  if d = 0 then (s, some k) else (s.suspend (.untilTick (s.now + d)), none)

/-- `End()` (R205). -/
def State.endCommand (s : State) : State :=
  { s with
    st := .idle
    busy := false
    done := true
    seq := { s.seq with cur := none, susp := none } }

/-- `FLUSH()` (R204). -/
def State.flush (s : State) : State := { s with xc := { s.xc with rxf := [] } }

/-- Both acknowledge latches are cleared (R203, R230). -/
def State.clearLatches (s : State) : State :=
  { s with ack := false, xc := { s.xc with irq := false } }

/-- The latch clear of XP's step 1 (R230, R231). -/
def State.startClear (s : State) : State :=
  if Config.clearLatchAtStart then s.clearLatches else { s with ack := false }

/-- The call of a packet routine with its arguments: A, SRC, RL0 and M hold them (R44; log 12). -/
def State.routineArgs (s : State) (addr : Byte) (src : ReqSrc) (rl0 cap : Nat) : State :=
  { s with seq := { s.seq with addr := addr, src := src, rl0 := rl0, cap := cap } }

/-- `BAUD_INIT` (R32, R206). -/
def baudInit (p : Params) : Half := BitVec.ofNat 16 (p.sysclkHz / Config.bitRateHz)

/-- The body of INIT before its End() (R206). -/
def State.initXcvr (s : State) : State :=
  let s := s.transceiverReset
  { s with
    xc := { s.xc with
      chlen := 3
      mult := 1
      baud := baudInit s.cfg
      txen := true
      rxen := true
      ackie := true } }

/-- The button state `(lo | hi << 8) ^ 0xFFFF` (R262). -/
def buttonState (lo hi : Byte) : Half := halfOf lo hi ^^^ 0xFFFF

/-- The value POLL leaves in SRESULT (R261). -/
def State.pollResult (s : State) : Half :=
  if s.seq.n ≥ Config.pollMinResp ∧ s.readByte (respbufAt 1) = s.cfg.markPad then
    buttonState (s.readByte (respbufAt 2)) (s.readByte (respbufAt 3))
  else 0x0000

/-- `Present(n)` (R264). -/
def State.present (s : State) : Bool :=
  s.seq.n == Config.probeRespExact && s.readByte (respbufAt 2) == s.cfg.markC2
    && s.readByte (respbufAt 3) == s.cfg.markC3

/-- `PKT <- [CMD_POLL, 0x00, 0x00, 0x00]` (R261). -/
def State.buildPollPkt (s : State) : State := s.writePkt 0 [s.cfg.cmdPoll, 0x00, 0x00, 0x00]

/-- `PKT <- [CMD_PROBE, 0x00, 0x00, 0x00, PROBE_REQ4]` (R263). -/
def State.buildProbePkt (s : State) : State :=
  s.writePkt 0 [s.cfg.cmdProbe, 0x00, 0x00, 0x00, s.cfg.probeReq4]

/-- BCAST's packet for a text of `ls` bytes: the header, then the text and its terminator verbatim
(R265). -/
def State.buildIdPkt (s : State) (ls : Nat) : State :=
  s.writePkt 0 ([s.cfg.cmdSendId, 0x00, BitVec.ofNat 8 (ls + 1)]
    ++ (List.range (ls + 1)).map (fun j => s.readByte (reqbufAt j)))

/-- XP's next byte, the head of its loop `while n < M` (R230). -/
def State.xpNextByte (s : State) : State × Option Act :=
  if s.seq.n < s.seq.cap then
    let s := s.enter .xfer
    if s.seq.rl > 0 then
      ({ s with seq := { s.seq with i := s.seq.i + 1, rl := s.seq.rl - 1 } },
        some (.xbBegin (s.srcByte s.seq.i)))
    else (s, some (.xbBegin 0x00))
  else (s, some .trail)

/-- XNA's next byte, the head of its loop over the request (R235). -/
def State.xnaNextByte (s : State) : State × Option Act :=
  if s.seq.rl > 0 then
    let s := s.enter .naByte
    ({ s with seq := { s.seq with i := s.seq.i + 1, rl := s.seq.rl - 1 } },
      some (.xbBegin (s.srcByte s.seq.i)))
  else (s, some .trail)

/-- What follows a byte exchange that returned `r`, by STATE (R209, R230, R235). In NABYTE the request
index is still 0 exactly when the byte was the address. -/
def State.afterXb (s : State) (r : Byte) : State × Option Act :=
  match s.st with
  | .byteCmd => (State.endCommand { s with sresult := r.setWidth 16 }, none)
  | .addr => (s.enter .addrAck, some (.waitBegin Config.tAckUs))
  | .xfer =>
    let s := s.writeByte (respbufAt s.seq.n) r
    (State.enter { s with seq := { s.seq with n := s.seq.n + 1 } } .dataAck,
      some (.waitBegin Config.tAckUs))
  | .naByte =>
    if s.seq.i = 0 then (s.flush, some .xnaNextByte)
    else (s.enter .naIbd).delayThen s.cfg.tIbdUs .xnaNextByte
  | _ => (s, none)

/-- What follows an acknowledge wait that returned `ok`, by STATE (R208, R230). -/
def State.afterWait (s : State) (ok : Bool) : State × Option Act :=
  match s.st with
  | .waitCmd => (State.endCommand { s with sresult := if ok then 0x0001 else 0x0000 }, none)
  | .addrAck =>
    let s := { s with seq := { s.seq with n := 0, i := 0, rl := s.seq.rl0 } }
    if ok then (s.flush, some .xpNextByte) else (s, some .trail)
  | .dataAck => if ok then (s, some .xpNextByte) else (s, some .trail)
  | _ => (s, none)

/-- What a BCAST that sends nothing leaves of attention that the host asserted: R265 has no action on
CTRL.ATTN there, R237 has it 0 after BCAST, so it is a free value (log 17). CTRL.PORT stays. -/
def State.emptyBcast (s : State) : State :=
  s.driveAttn (s.xc.attn && Config.emptyBcastKeepsAttn s.now) s.xc.port

/-- PROBE after the exchange on port p: the presence bit, then the next port or the end (R263). -/
def State.probeNext (s : State) : State × Option Act :=
  let s := if s.present then
      { s with seq := { s.seq with presence := s.seq.presence ||| portMask s.seq.loopPort } }
    else s
  match s.seq.loopPort with
  | .port0 => ({ s with seq := { s.seq with loopPort := .port1 } }, some .probePort)
  | .port1 => (State.endCommand { s with sresult := s.seq.presence.setWidth 16 }, none)

/-- BCAST after port p: the next port, or the end (R265). -/
def State.bcastNext (s : State) : State × Option Act :=
  match s.seq.loopPort with
  | .port0 => ({ s with seq := { s.seq with loopPort := .port1 } }, some .bcastPort)
  | .port1 => (State.endCommand { s with sresult := 0x0000, sresplen := 0x00 }, none)

/-- What follows a packet routine, by CUR (R230, R235, R261, R263, R265). XP sets SRESPLEN. -/
def State.afterPacket (s : State) : State × Option Act :=
  let counted := { s with sresplen := BitVec.ofNat 8 s.seq.n }
  match s.seq.cur with
  | some .xchg => (counted.endCommand, none)
  | some .poll => (State.endCommand { counted with sresult := counted.pollResult }, none)
  | some .probe => counted.probeNext
  | some .xnoack => (State.endCommand { s with sresplen := 0x00 }, none)
  | some .bcast => s.bcastNext
  | _ => (s, none)

/-- One zero-time action: the state after it and the next action, or none where the body suspends or
ends. -/
def act : Act → State → State × Option Act
  | .xpStart, s => (s.enter .pre).delayThen s.cfg.tPreUs .preDone
  | .preDone, s =>
    ((s.startClear.driveAttn true s.xc.port).enter .settle).delayThen Config.tSettleUs .settleDone
  | .settleDone, s => (s.enter .addr, some (.xbBegin s.seq.addr))
  | .xpNextByte, s => s.xpNextByte
  | .xnaStart, s =>
    let s := (s.driveAttn true s.xc.port).enter .naByte
    ({ s with seq := { s.seq with i := 0, rl := s.seq.rl0 } }, some (.xbBegin s.seq.addr))
  | .xnaNextByte, s => s.xnaNextByte
  | .trail, s => (s.enter .trail).delayThen s.cfg.tTrailUs .trailDone
  | .trailDone, s => ((s.driveAttn false s.xc.port).enter .post).delayThen s.cfg.tPostUs .postDone
  | .postDone, s => s.afterPacket
  | .probePort, s =>
    let s := (s.driveAttn s.xc.attn s.seq.loopPort).buildProbePkt
    (s.routineArgs s.cfg.addrCard .pkt Config.probeReqLen Config.probeRespCap, some .xpStart)
  | .bcastPort, s =>
    if inMask s.seq.mask s.seq.loopPort then
      (s.driveAttn s.xc.attn s.seq.loopPort, some .xnaStart)
    else s.bcastNext
  | .xbBegin v, s =>
    let s := { s with seq := { s.seq with xbByte := v } }
    if s.xc.txRdy then (s, some .xbSend) else (s.suspend .txReady, none)
  | .xbSend, s =>
    (State.tryLoad { s with xc := { s.xc with txh := some s.seq.xbByte } }, some .xbReceive)
  | .xbReceive, s =>
    match s.xc.rxf with
    | [] => (s.suspend .rxReady, none)
    | r :: rest => ({ s with xc := { s.xc with rxf := rest } }, some (.xbReturn r))
  | .xbReturn r, s => s.afterXb r
  | .waitBegin budget, s => ({ s with seq := { s.seq with rem := budget } }, some .waitCheck)
  | .waitCheck, s =>
    if s.seq.rem ≤ 0 then (s, some (.waitReturn false))
    else if s.ack then (s.clearLatches, some (.waitReturn true))
    else s.delayThen Config.ackPollUs .waitSlept
  | .waitSlept, s =>
    ({ s with seq := { s.seq with rem := s.seq.rem - Config.ackPollUs } }, some .waitCheck)
  | .waitReturn ok, s => s.afterWait ok

/-- The zero-time actions from a point on, at most `fuel` of them: the state, and the action not yet
done where the bound cut them off (R201). -/
def runActs : Nat → Act → State → State × Option Act
  | 0, a, s => (s, some a)
  | fuel + 1, a, s =>
    match act a s with
    | (s', none) => (s', none)
    | (s', some a') => runActs fuel a' s'

/-- More actions than any body does between two suspensions (log 13). -/
def actBound : Nat := 64

/-- Run the body from a point to its next suspension or its end (R201). -/
def State.runBody (s : State) (a : Act) : State := (runActs actBound a s).1

/-- Where a suspended body goes on, by STATE (R201). -/
def resumePoint (st : SeqState) (w : Susp) : Option Act :=
  match w, st with
  | .untilTick _, .pre => some .preDone
  | .untilTick _, .settle => some .settleDone
  | .untilTick _, .addrAck => some .waitSlept
  | .untilTick _, .dataAck => some .waitSlept
  | .untilTick _, .waitCmd => some .waitSlept
  | .untilTick _, .naIbd => some .xnaNextByte
  | .untilTick _, .trail => some .trailDone
  | .untilTick _, .post => some .postDone
  | .untilTick _, _ => none
  | .txReady, _ => some .xbSend
  | .rxReady, _ => some .xbReceive

/-- Whether a suspension condition holds now (R201). -/
def State.suspHolds (s : State) (w : Susp) : Bool :=
  match w with
  | .untilTick t => t == s.now
  | .txReady => s.xc.txRdy
  | .rxReady => s.xc.rxRdy

/-- The sequencer phase of the current tick (R24, R201). -/
def State.sequencerPhase (s : State) : State :=
  match s.seq.susp with
  | none => s
  | some w =>
    if s.suspHolds w then
      match resumePoint s.st w with
      | some a => State.runBody { s with seq := { s.seq with susp := none } } a
      | none => s
    else s

/-! ### START -/

/-- Why a command that exists does not start (R200): RANGE, then IDLEN, then NOTREADY (R301). -/
def State.operandError (s : State) (c : Cmd) : ErrCode :=
  if c = .xchg ∧ (s.sreqlen.toNat > Config.reqCap ∨ s.smaxresp.toNat > Config.respCap) then .range
  else if c = .xnoack ∧ s.sreqlen.toNat > Config.reqCap then .range
  else if c = .bcast ∧ s.idOk = false then .idLen
  else if c.bus ∧ s.xc.configured = false then .notReady
  else .noError

/-- `reject(code)` (R10, R200): nothing but ERR and DONE changes. -/
def State.reject (s : State) (code : ErrCode) : State := { s with err := code, done := true }

/-- The acceptance of a command: the status bits and the latched operands (R200). -/
def State.accept (s : State) (c : Cmd) : State :=
  { s with
    err := .noError
    done := false
    busy := true
    seq := { s.seq with
      cur := some c
      addr := s.saddr
      rl0 := s.sreqlen.toNat
      cap := s.smaxresp.toNat
      timeout := s.stimeout
      port := portOperand s.sarg
      mask := maskOperand s.sarg } }

/-- The first actions of a command's body (R206 to R209, R230, R235, R261, R263, R265). -/
def commandEntry (c : Cmd) (s : State) : State × Option Act :=
  match c with
  | .init => (s.initXcvr.endCommand, none)
  | .select => ((s.driveAttn s.xc.attn s.seq.port).endCommand, none)
  | .waitack => (s.enter .waitCmd, some (.waitBegin s.seq.timeout.toNat))
  | .xbyte => (s.enter .byteCmd, some (.xbBegin (s.readByte (reqbufAt 0))))
  | .xchg => (s.routineArgs s.seq.addr .reqbuf s.seq.rl0 s.seq.cap, some .xpStart)
  | .xnoack => (s.routineArgs s.seq.addr .reqbuf s.seq.rl0 s.seq.cap, some .xnaStart)
  | .poll =>
    let s := s.buildPollPkt.driveAttn s.xc.attn s.seq.port
    (s.routineArgs s.cfg.addrPad .pkt Config.pollReqLen Config.pollRespCap, some .xpStart)
  | .probe =>
    ({ s with seq := { s.seq with presence := 0, loopPort := .port0 } }, some .probePort)
  | .bcast =>
    match s.textLength with
    | some ls =>
      let s := s.buildIdPkt ls
      let s := s.routineArgs s.cfg.addrCard .pkt (Config.bcastHdr + (ls + 1)) s.seq.cap
      let s := if s.seq.mask = 0 then s.emptyBcast else s
      ({ s with seq := { s.seq with loopPort := .port0 } }, some .bcastPort)
    | none => (s.endCommand, none)

/-- The body of a command from its start to its first suspension or its end (R200). -/
def State.launch (s : State) (c : Cmd) : State :=
  match commandEntry c s with
  | (s', none) => s'
  | (s', some a) => s'.runBody a

/-- `Start` of a command that exists (R200). -/
def State.startCommand (s : State) (c : Cmd) : State :=
  match s.operandError c with
  | .noError => (s.accept c).launch c
  | e => s.reject e

/-- `Start(v)` (R200). -/
def State.start (s : State) (v : Byte) : State :=
  match cmdOfByte v with
  | some c => s.startCommand c
  | none => s.reject .illCmd

end Sys2Proof.Machine
end

