-- ==== Sys2Proof/Machine/Tick.lean ====
section
/-! DEFINITION. One tick of the block without its host phase (R24): the tick counter advances, then the
transceiver, acknowledge and sequencer phases run. -/

namespace Sys2Proof.Machine

/-- The devices' input of the current tick: the next scripted one, or draws (R27; log 5). -/
def State.devInput (s : State) : DevInput :=
  match s.dev with
  | d :: _ => d
  | [] => ⟨Config.ackDraw s.now, Config.rxDraw s.now⟩

/-- The tick counter advances (R23). -/
def State.advance (s : State) : State := { s with now := s.now + 1 }

/-- The scripted input of the current tick, if there is one, is used up. -/
def State.dropDev (s : State) : State := { s with dev := s.dev.tail }

/-- The three phases of a tick before its host phase, under the devices' input (R24). -/
def State.phases (s : State) (d : DevInput) : State :=
  ((s.transceiverPhase d.rx).ackPhase d.ack).sequencerPhase

/-- The next tick up to its host phase (R24). -/
def State.tick (s : State) : State := s.advance.dropDev.phases s.advance.devInput

end Sys2Proof.Machine
end

