-- ==== Sys2Proof/Machine/Access.lean ====
section
/-! DEFINITION. What every host transaction shares: the busy filter, the reply of a read, the answer to an
access that is not accepted, the access of a buffer, and the write of SCMD (R120, R121, R126, R136,
R151, R152, R156 to R158). -/

namespace Sys2Proof.Machine

/-- The outcome of an instruction. -/
abbrev Result := Host.Outcome State Fault Refusal

/-- A read that returns `x` and changes nothing (R67, R120). -/
def State.reply (s : State) (x : Half) : Result := .next (s.ret x)

/-- The busy filter of a write: while BUSY it is ignored and raises WERR (R121). -/
def State.whenIdle (s : State) (k : Result) : Result := if s.busy then .next s.raiseWerr else k

/-- An accepted write whose only effect is the new state. -/
def State.wrote (s s' : State) : Result := s.whenIdle (.next s')

/-- A read that is not accepted: AERR, and 0 is returned (R122, R156, R157, R158). -/
def State.badRead (s : State) : Result := .next (s.raiseAerr.ret 0)

/-- A write that is not accepted: AERR and no other effect (R126, R156, R157, R158). -/
def State.badWrite (s : State) : Result := s.wrote s.raiseAerr

/-- A 16-bit access that is not accepted (R156, R157). -/
def State.badAccess16 (s : State) (a : Access16) : Result :=
  match a with
  | .read => s.badRead
  | .write _ => s.badWrite

/-- An access of an RZ byte: it reads 0 and ignores writes (R124). -/
def State.rzAccess (s : State) (a : Access8) : Result :=
  match a with
  | .read => s.reply 0
  | .write _ => s.wrote s

/-- The value a read of a buffer returns: the byte at the offset, and with 16 bits the next byte above
it (R61, R151). `bufAt` is the buffer's map from indices to window offsets. -/
def State.bufferRead (s : State) (bufAt : Nat → Nat) (w : Width) (k : BitVec 6) : Half :=
  match w with
  | .w8 => (s.readByte (bufAt k.toNat)).setWidth 16
  | .w16 => halfOf (s.readByte (bufAt k.toNat)) (s.readByte (bufAt (k.toNat + 1)))

/-- The state after a write of a buffer (R61, R152). -/
def State.bufferWrite (s : State) (bufAt : Nat → Nat) (d : WData) (k : BitVec 6) : State :=
  match d with
  | .w8 b => s.writeByte (bufAt k.toNat) b
  | .w16 h => (s.writeByte (bufAt k.toNat) (loByte h)).writeByte (bufAt (k.toNat + 1)) (hiByte h)

/-- A write of SCMD with command byte `v`: SCMD <- v, then Start(v), unless BUSY (R121, R136). -/
def State.writeScmd (s : State) (v : Byte) : Result :=
  s.wrote (State.start { s with scmd := v } v)

/-- The host line `cmd NAME`: a write of SCMD whose value selects command `c` (R99, R136). -/
def State.issue (s : State) (v : Byte) (c : Cmd) : Result :=
  s.wrote (State.startCommand { s with scmd := v } c)

end Sys2Proof.Machine
end

