-- ==== Sys2Proof/Machine/BufferPort.lean ====
section
/-! DEFINITION. The host-port rows of the buffers, and the rows of accesses that are not accepted (rows
1, 21, 22 and 37 to 43 of R92; R126, R151 to R158). -/

namespace Sys2Proof.Machine

/-- RD.REQBUF (R151). -/
def execRdReqbuf (w : Width) (k : BitVec 6) (s : State) : Result :=
  s.reply (s.bufferRead reqbufAt w k)

/-- WR.REQBUF (R152). -/
def execWrReqbuf (d : WData) (k : BitVec 6) (s : State) : Result :=
  s.wrote (s.bufferWrite reqbufAt d k)

/-- RD.RESPBUF (R153). -/
def execRdRespbuf (w : Width) (k : BitVec 6) (s : State) : Result :=
  s.reply (s.bufferRead respbufAt w k)

/-- WR.RESPBUF (R154). -/
def execWrRespbuf (d : WData) (k : BitVec 6) (s : State) : Result :=
  s.wrote (s.bufferWrite respbufAt d k)

/-- RD.PKT (R155). -/
def execRdPkt (w : Width) (k : BitVec 6) (s : State) : Result := s.reply (s.bufferRead pktAt w k)

/-- WR.PKT (R126). -/
def execWrPkt (_d : WData) (_k : BitVec 6) (s : State) : Result := s.badWrite

/-- MISALIGN16 (R156). -/
def execMisalign16 (a : Access16) (_off : Byte) (s : State) : Result := s.badAccess16 a

/-- WIDE.24 (R157). -/
def execWide24 (a : Access16) (s : State) : Result := s.badAccess16 a

/-- WIDE.26 (R157). -/
def execWide26 (a : Access16) (s : State) : Result := s.badAccess16 a

/-- UNMAPPED (R158). -/
def execUnmapped (a : Access) (_off : Byte) (s : State) : Result :=
  match a with
  | .read _ => s.badRead
  | .write _ => s.badWrite

end Sys2Proof.Machine
end

