-- ==== Sys2Proof/Machine/Commands.lean ====
section
/-! DEFINITION. The commands as host lines `cmd NAME` (R93, R99; R206 to R210, R230, R235, R261, R263,
R265). Each is the write of SCMD with its value; the body of the command runs inside that transaction
up to its first suspension (R200) and then in the sequencer phases of the following ticks (R201). -/

namespace Sys2Proof.Machine

/-- `cmd INIT` (R206). -/
def execInit (s : State) : Result := s.issue 0x01 .init

/-- `cmd SELECT` (R207). -/
def execSelect (s : State) : Result := s.issue 0x02 .select

/-- `cmd WAITACK` (R208). -/
def execWaitack (s : State) : Result := s.issue 0x03 .waitack

/-- `cmd XBYTE` (R209). -/
def execXbyte (s : State) : Result := s.issue 0x04 .xbyte

/-- `cmd XCHG` (R230). -/
def execXchg (s : State) : Result := s.issue 0x05 .xchg

/-- `cmd XNOACK` (R235). -/
def execXnoack (s : State) : Result := s.issue 0x06 .xnoack

/-- `cmd POLL` (R261). -/
def execPoll (s : State) : Result := s.issue 0x10 .poll

/-- `cmd PROBE` (R263). -/
def execProbe (s : State) : Result := s.issue 0x11 .probe

/-- `cmd BCAST` (R265). -/
def execBcast (s : State) : Result := s.issue 0x12 .bcast

/-- A reserved command value written to SCMD (R210). -/
def execReservedCmd (v : Byte) (s : State) : Result :=
  s.wrote (State.reject { s with scmd := v } .illCmd)

end Sys2Proof.Machine
end

