-- ==== Sys2Proof/Machine/SequencerPort.lean ====
section
/-! DEFINITION. The host-port rows of the sequencer registers (rows 17 to 36 of R92 but for the WIDE
rows; R126, R135 to R150). -/

namespace Sys2Proof.Machine

/-- RD.SCMD (R135). -/
def execRdScmd (_w : Width) (s : State) : Result := s.reply (s.scmd.setWidth 16)

/-- WR.SCMD (R136). -/
def execWrScmd (d : WData) (s : State) : Result := s.writeScmd (dataLow d)

/-- RD.SSTAT (R137). -/
def execRdSstat (l : RLane) (s : State) : Result := s.reply (readLane l (sstatWord s))

/-- WR.SSTAT: bits 8 and 9 of a written high byte clear WERR and AERR; accepted while BUSY (R138). -/
def execWrSstat (l : WLane) (s : State) : Result :=
  match laneHigh l with
  | some b => .next { s with werr := s.werr && !b.getLsbD 0, aerr := s.aerr && !b.getLsbD 1 }
  | none => .next s

/-- RD.SADDR (R139). -/
def execRdSaddr (s : State) : Result := s.reply (s.saddr.setWidth 16)

/-- WR.SADDR (R140). -/
def execWrSaddr (b : Byte) (s : State) : Result := s.wrote { s with saddr := b }

/-- RD.SARG (R141). -/
def execRdSarg (s : State) : Result := s.reply (s.sarg.setWidth 16)

/-- WR.SARG (R142). -/
def execWrSarg (b : Byte) (s : State) : Result := s.wrote { s with sarg := b }

/-- RD.SREQLEN (R143). -/
def execRdSreqlen (s : State) : Result := s.reply (s.sreqlen.setWidth 16)

/-- WR.SREQLEN (R144). -/
def execWrSreqlen (b : Byte) (s : State) : Result := s.wrote { s with sreqlen := b }

/-- RD.SMAXRESP (R145). -/
def execRdSmaxresp (s : State) : Result := s.reply (s.smaxresp.setWidth 16)

/-- WR.SMAXRESP (R146). -/
def execWrSmaxresp (b : Byte) (s : State) : Result := s.wrote { s with smaxresp := b }

/-- RD.SRESPLEN (R147). -/
def execRdSresplen (_w : Width) (s : State) : Result := s.reply (s.sresplen.setWidth 16)

/-- WR.SRESPLEN (R126). -/
def execWrSresplen (_d : WData) (s : State) : Result := s.badWrite

/-- RD.SRESULT (R148). -/
def execRdSresult (l : RLane) (s : State) : Result := s.reply (readLane l s.sresult)

/-- WR.SRESULT (R126). -/
def execWrSresult (_l : WLane) (s : State) : Result := s.badWrite

/-- RD.STIMEOUT (R149). -/
def execRdStimeout (l : RLane) (s : State) : Result := s.reply (readLane l s.stimeout)

/-- WR.STIMEOUT (R150). -/
def execWrStimeout (l : WLane) (s : State) : Result :=
  s.wrote { s with stimeout := merge l s.stimeout }

end Sys2Proof.Machine
end

