-- ==== Sys2Proof/Machine/TransceiverPort.lean ====
section
/-! DEFINITION. The host-port rows of DATA, the RZ bytes and the transceiver registers (rows 2 to 16 of
R92; R122 to R134). -/

namespace Sys2Proof.Machine

/-- RD.DATA (R121, R122). The width does not matter: one byte is popped and zero-extended. -/
def execRdData (_w : Width) (s : State) : Result :=
  if s.busy then .next (s.raiseWerr.ret 0)
  else
    match s.xc.rxf with
    | [] => s.badRead
    | b :: rest =>
      State.reply { s with xc := { s.xc with rxf := rest } } (b.setWidth 16)

/-- WR.DATA (R123). With `LineOK()` false the model has no step for it (R170). -/
def execWrData (d : WData) (s : State) : Result :=
  s.whenIdle
    (if s.xc.lineOk = false then .refused .lineNotOk
    else if s.xc.txh.isSome then .next s.raiseAerr
    else .next (State.tryLoad { s with xc := { s.xc with txh := some (dataLow d) } }))

/-- RZ.01 (R124). -/
def execRz01 (a : Access8) (s : State) : Result := s.rzAccess a

/-- RZ.21 (R124). -/
def execRz21 (a : Access8) (s : State) : Result := s.rzAccess a

/-- RZ.29 (R124). -/
def execRz29 (a : Access8) (s : State) : Result := s.rzAccess a

/-- RD.STAT (R125). -/
def execRdStat (l : RLane) (s : State) : Result := s.reply (readLane l (statWord s.xc))

/-- WR.STAT (R126). -/
def execWrStat (_l : WLane) (s : State) : Result := s.badWrite

/-- RD.MODE (R129). -/
def execRdMode (l : RLane) (s : State) : Result := s.reply (readLane l (modeWord s.xc))

/-- WR.MODE (R130). -/
def execWrMode (l : WLane) (s : State) : Result :=
  let v := merge l (modeWord s.xc)
  s.wrote (State.tryLoad
    { s with xc := { s.xc with mult := v.setWidth 2, chlen := (v >>> 2).setWidth 2 } })

/-- RD.CTRL (R127). -/
def execRdCtrl (l : RLane) (s : State) : Result := s.reply (readLane l (ctrlWord s.xc))

/-- The effect of writing the merged value `v` to CTRL (R128). -/
def State.writeCtrl (s : State) (v : Half) : State :=
  if v.getLsbD 6 then s.transceiverReset
  else
    let s := if v.getLsbD 4 then s.ackClear else s
    let s := s.driveAttn (v.getLsbD 1) (portOfBit (v.getLsbD 13))
    State.tryLoad
      { s with xc := { s.xc with
          txen := v.getLsbD 0, rxen := v.getLsbD 2, ackie := v.getLsbD 12 } }

/-- WR.CTRL (R128). -/
def execWrCtrl (l : WLane) (s : State) : Result := s.wrote (s.writeCtrl (merge l (ctrlWord s.xc)))

/-- RD.BAUD (R131). -/
def execRdBaud (l : RLane) (s : State) : Result := s.reply (readLane l s.xc.baud)

/-- WR.BAUD (R132). -/
def execWrBaud (l : WLane) (s : State) : Result :=
  s.wrote (State.tryLoad { s with xc := { s.xc with baud := merge l s.xc.baud } })

/-- RD.ISTAT (R133). -/
def execRdIstat (l : RLane) (s : State) : Result := s.reply (readLane l (istatWord s.ack))

/-- WR.ISTAT: ACK is kept only where the written low byte has bit 7 (R134). -/
def execWrIstat (l : WLane) (s : State) : Result :=
  s.wrote
    (match laneLow l with
    | some b => { s with ack := s.ack && b.getLsbD 7 }
    | none => s)

end Sys2Proof.Machine
end

