-- ==== Sys2Proof/Machine/Dispatch.lean ====
section
/-! DEFINITION. The meaning of every instruction, one arm each. -/

namespace Sys2Proof.Machine

/-- What an instruction does, in the host phase of the current tick. -/
def exec (i : Instr) (s : State) : Host.Outcome State Fault Refusal :=
  match i with
  | .misalign16 a off => Sys2Proof.Machine.execMisalign16 a off s
  | .rdData w => Sys2Proof.Machine.execRdData w s
  | .wrData d => Sys2Proof.Machine.execWrData d s
  | .rz01 a => Sys2Proof.Machine.execRz01 a s
  | .rz21 a => Sys2Proof.Machine.execRz21 a s
  | .rz29 a => Sys2Proof.Machine.execRz29 a s
  | .rdStat l => Sys2Proof.Machine.execRdStat l s
  | .wrStat l => Sys2Proof.Machine.execWrStat l s
  | .rdMode l => Sys2Proof.Machine.execRdMode l s
  | .wrMode l => Sys2Proof.Machine.execWrMode l s
  | .rdCtrl l => Sys2Proof.Machine.execRdCtrl l s
  | .wrCtrl l => Sys2Proof.Machine.execWrCtrl l s
  | .rdBaud l => Sys2Proof.Machine.execRdBaud l s
  | .wrBaud l => Sys2Proof.Machine.execWrBaud l s
  | .rdIstat l => Sys2Proof.Machine.execRdIstat l s
  | .wrIstat l => Sys2Proof.Machine.execWrIstat l s
  | .rdScmd w => Sys2Proof.Machine.execRdScmd w s
  | .wrScmd d => Sys2Proof.Machine.execWrScmd d s
  | .rdSstat l => Sys2Proof.Machine.execRdSstat l s
  | .wrSstat l => Sys2Proof.Machine.execWrSstat l s
  | .wide24 a => Sys2Proof.Machine.execWide24 a s
  | .wide26 a => Sys2Proof.Machine.execWide26 a s
  | .rdSaddr => Sys2Proof.Machine.execRdSaddr s
  | .wrSaddr b => Sys2Proof.Machine.execWrSaddr b s
  | .rdSarg => Sys2Proof.Machine.execRdSarg s
  | .wrSarg b => Sys2Proof.Machine.execWrSarg b s
  | .rdSreqlen => Sys2Proof.Machine.execRdSreqlen s
  | .wrSreqlen b => Sys2Proof.Machine.execWrSreqlen b s
  | .rdSmaxresp => Sys2Proof.Machine.execRdSmaxresp s
  | .wrSmaxresp b => Sys2Proof.Machine.execWrSmaxresp b s
  | .rdSresplen w => Sys2Proof.Machine.execRdSresplen w s
  | .wrSresplen d => Sys2Proof.Machine.execWrSresplen d s
  | .rdSresult l => Sys2Proof.Machine.execRdSresult l s
  | .wrSresult l => Sys2Proof.Machine.execWrSresult l s
  | .rdStimeout l => Sys2Proof.Machine.execRdStimeout l s
  | .wrStimeout l => Sys2Proof.Machine.execWrStimeout l s
  | .rdReqbuf w k => Sys2Proof.Machine.execRdReqbuf w k s
  | .wrReqbuf d k => Sys2Proof.Machine.execWrReqbuf d k s
  | .rdRespbuf w k => Sys2Proof.Machine.execRdRespbuf w k s
  | .wrRespbuf d k => Sys2Proof.Machine.execWrRespbuf d k s
  | .rdPkt w k => Sys2Proof.Machine.execRdPkt w k s
  | .wrPkt d k => Sys2Proof.Machine.execWrPkt d k s
  | .unmapped a off => Sys2Proof.Machine.execUnmapped a off s
  | .init => Sys2Proof.Machine.execInit s
  | .select => Sys2Proof.Machine.execSelect s
  | .waitack => Sys2Proof.Machine.execWaitack s
  | .xbyte => Sys2Proof.Machine.execXbyte s
  | .xchg => Sys2Proof.Machine.execXchg s
  | .xnoack => Sys2Proof.Machine.execXnoack s
  | .poll => Sys2Proof.Machine.execPoll s
  | .probe => Sys2Proof.Machine.execProbe s
  | .bcast => Sys2Proof.Machine.execBcast s
  | .reservedCmd v => Sys2Proof.Machine.execReservedCmd v s

end Sys2Proof.Machine
end

