-- ==== Sys2Proof/Machine/Step.lean ====
section
/-! DEFINITION. One step of the machine: the host's next line in the host phase of the current tick, or
the next tick (R24; log 1). -/

namespace Sys2Proof.Machine

/-- The refusal of a host line that is no instruction. -/
def refusalOf (e : DecodeError) : Refusal :=
  match e with
  | .codeWidth => .codeWidth
  | .transactionSize => .transactionSize

/-- One step. Where the host's next event is a line, it runs, atomically and at the current tick
(R66, R69); where the host ends its phase or does nothing more, the next tick runs (R24). -/
def step (s : State) : Host.Outcome State Fault Refusal :=
  match s.host with
  | [] => .next s.tick
  | .endPhase :: rest => .next (State.tick { s with host := rest })
  | .line bytes :: rest =>
    match decode bytes with
    | .ok i => exec i { s with host := rest }
    | .error e => .refused (refusalOf e)

/-- The state with an instruction of the opcode table as the host's next line, before the lines it
already holds (log 1, log 14). -/
def State.withFetchWord (s : State) (nbits w : Nat) : State :=
  { s with host := .line (tableLine nbits w) :: s.host }

end Sys2Proof.Machine
end

