-- ==== Sys2Proof/Safety.lean ====
section
/-! DEFINITION. What counts as a safe run, and the invariants claims are stated over. -/

namespace Sys2Proof.Machine

/-- A run of `k` steps that meets no refusal. -/
def State.safeFor (s : State) (k : Nat) : Prop := ∃ t, Sys2Proof.core.run k s = .next t

/-- A clean transceiver: STAT.TXIDLE = 1 and STAT.RXRDY = 0 (R233, R351). -/
def State.clean (s : State) : Prop := s.xc.txIdle = true ∧ s.xc.rxRdy = false

/-- The premise `Absent(p)` of R28 over the next `k` ticks: while port `p` is selected no pulse comes. -/
def State.absent (s : State) (p : Port) (k : Nat) : Prop :=
  ∀ j < k, ∃ d, s.dev[j]? = some d ∧ ((State.tick^[j] s).xc.port = p → d.ack = false)

/-- The premise `Silent-unselected` of R28 over the next `k` ticks: a pulse comes only while an
attention line is asserted. -/
def State.silentUnselected (s : State) (k : Nat) : Prop :=
  ∀ j < k, ∃ d, s.dev[j]? = some d ∧ (d.ack = true → ∃ p, (State.tick^[j] s).attnLine p = true)

/-- The commands that run XP (R230, R261, R263). -/
def Cmd.exchanges (c : Cmd) : Bool :=
  match c with
  | .xchg | .poll | .probe => true
  | .init | .select | .waitack | .xbyte | .xnoack | .bcast => false

/-- The commands that run XNA (R235, R265). -/
def Cmd.sends (c : Cmd) : Bool :=
  match c with
  | .xnoack | .bcast => true
  | .init | .select | .waitack | .xbyte | .xchg | .poll | .probe => false

/-- Where the body of a running command can be suspended, and on what (R208, R209, R234, R235). -/
def waitsAt (c : Cmd) (st : SeqState) (w : Susp) : Bool :=
  match st, w with
  | .pre, .untilTick _ | .settle, .untilTick _ | .addrAck, .untilTick _
  | .dataAck, .untilTick _ => c.exchanges
  | .addr, .txReady | .addr, .rxReady | .xfer, .txReady | .xfer, .rxReady => c.exchanges
  | .naIbd, .untilTick _ | .naByte, .txReady | .naByte, .rxReady => c.sends
  | .trail, .untilTick _ | .post, .untilTick _ => c.exchanges || c.sends
  | .waitCmd, .untilTick _ => c == .waitack
  | .byteCmd, .txReady | .byteCmd, .rxReady => c == .xbyte
  | _, _ => false

/-- The states of an exchange or a send in which attention is asserted (R230, R235). -/
def SeqState.attends (st : SeqState) : Bool :=
  match st with
  | .settle | .addr | .addrAck | .xfer | .dataAck | .trail | .naByte | .naIbd => true
  | .idle | .pre | .post | .waitCmd | .byteCmd => false

/-- The states in which WAIT polls (R203, R208, R230). -/
def SeqState.polls (st : SeqState) : Bool :=
  match st with
  | .addrAck | .dataAck | .waitCmd => true
  | .idle | .pre | .settle | .addr | .xfer | .trail | .post | .naByte | .naIbd | .byteCmd => false

/-- What the transceiver keeps between phases: a shift ends in the future and within one byte time
(R171), a held byte waits for the shifter or for its enables (R171, R173), and the FIFO keeps its
depth (R172). -/
structure State.XcvrInv (s : State) : Prop where
  shift_ahead : ∀ b t, s.xc.sh = some (b, t) → s.now < t ∧ t ≤ s.now + s.cfg.byteUs
  held : s.xc.txh.isSome = true → s.xc.sh.isSome = true ∨ (s.xc.txen && s.xc.lineOk) = false
  depth : s.xc.rxf.length ≤ s.cfg.rxFifoDepth

/-- What the sequencer keeps between phases: it is idle, or a command runs that is suspended at a
point of its body, on a condition that does not hold yet but can come to hold (R200, R201, R205). -/
structure State.SeqInv (s : State) : Prop where
  busy_cur : s.busy = s.seq.cur.isSome
  idle : s.seq.cur = none → s.st = .idle ∧ s.seq.susp = none
  running : ∀ c, s.seq.cur = some c →
    s.done = false ∧ s.err = .noError ∧ (c.bus = true → s.xc.configured = true)
      ∧ ∃ w, s.seq.susp = some w ∧ waitsAt c s.st w = true
  tick_ahead : ∀ t, s.seq.susp = some (.untilTick t) → s.now < t
  tx_wait : s.seq.susp = some .txReady → s.xc.txh.isSome = true
  rx_wait : s.seq.susp = some .rxReady → s.xc.rxf = [] ∧ s.xc.sh.isSome = true

/-- The bounds of the packet counters (R211, R232): at most M bytes are stored, and exactly
`min(RL, n)` request bytes are read. -/
structure State.CountInv (s : State) : Prop where
  request : ∀ c, s.seq.cur = some c → (c.exchanges || c.sends) = true → s.seq.rl0 ≤ 64
  capacity : ∀ c, s.seq.cur = some c → c.exchanges = true → s.seq.cap ≤ 64
  stored : s.seq.n ≤ 64
  sending : s.st = .xfer →
    s.seq.n < s.seq.cap ∧ s.seq.i = min s.seq.rl0 (s.seq.n + 1) ∧ s.seq.i + s.seq.rl = s.seq.rl0
  waiting : s.st = .dataAck →
    s.seq.n ≤ s.seq.cap ∧ s.seq.i = min s.seq.rl0 s.seq.n ∧ s.seq.i + s.seq.rl = s.seq.rl0
  noAck : s.st = .naByte ∨ s.st = .naIbd → s.seq.i + s.seq.rl = s.seq.rl0
  budget : -9 ≤ s.seq.rem ∧ s.seq.rem ≤ 65535
  polling : s.st.polls = true → 0 < s.seq.rem

/-- Attention is asserted exactly where the routines assert it (R230, R235, R237). -/
structure State.AttnInv (s : State) : Prop where
  asserted : s.st.attends = true → s.xc.attn = true
  released : s.st = .post → s.xc.attn = false

/-- The invariant of the machine: what holds at reset and after every step. -/
structure State.Inv (s : State) : Prop where
  params : s.cfg.Ok
  memory : s.mem.wf = true
  xcvr : s.XcvrInv
  seq : s.SeqInv
  count : s.CountInv
  attn : s.AttnInv

end Sys2Proof.Machine
end

