-- ==== Sys2Proof/Certificates/Slice0/Obligations.lean ====
section
/-! DEFINITION. What is claimed of the machine. In every statement about a read, rdata is the value the
read returned, which the model leaves in the state (log 4). -/

open Sys2Proof Sys2Proof.Machine

namespace Sys2Proof.Claims

/-! ### The terms the statements use, written from the spec's numbers and not from the model's words -/

/-- What a read of a lane of a 16-bit register of value `v` returns (R120). -/
def lane (l : RLane) (v : Nat) : Half :=
  match l with
  | .lo => BitVec.ofNat 16 (v % 256)
  | .hi => BitVec.ofNat 16 (v / 256)
  | .whole => BitVec.ofNat 16 v

/-- The value of a 16-bit register of value `v` after a write of a lane (R95). -/
def merged (l : WLane) (v : Nat) : Nat :=
  match l with
  | .lo b => 256 * (v / 256) + b.toNat
  | .hi b => 256 * b.toNat + v % 256
  | .whole h => h.toNat

/-- A 16-bit value from its low and its high byte (R61). -/
def twoBytes (low high : Byte) : Half := BitVec.ofNat 16 (low.toNat + 256 * high.toNat)

/-- STAT (R33). -/
def statValue (x : Xcvr) : Nat :=
  512 * x.irq.toNat + 8 * x.rxovr.toNat + 4 * (x.txh.isNone && x.sh.isNone).toNat
    + 2 * (!x.rxf.isEmpty).toNat + x.txh.isNone.toNat

/-- CTRL (R30). -/
def ctrlValue (x : Xcvr) : Nat :=
  8192 * (if x.port = .port1 then 1 else 0) + 4096 * x.ackie.toNat + 4 * x.rxen.toNat
    + 2 * x.attn.toNat + x.txen.toNat

/-- MODE (R31). -/
def modeValue (x : Xcvr) : Nat := 4 * x.chlen.toNat + x.mult.toNat

/-- The codes of the sequencer states (R22). -/
def stateCode (st : SeqState) : Nat :=
  match st with
  | .idle => 0 | .pre => 1 | .settle => 2 | .addr => 3 | .addrAck => 4 | .xfer => 5 | .dataAck => 6
  | .trail => 7 | .post => 8 | .naByte => 9 | .naIbd => 10 | .waitCmd => 11 | .byteCmd => 12

/-- The error codes (R300). -/
def errCode (e : ErrCode) : Nat :=
  match e with
  | .noError => 0 | .illCmd => 1 | .notReady => 2 | .range => 3 | .idLen => 4

/-- SSTAT (R37). -/
def sstatValue (s : State) : Nat :=
  4096 * stateCode s.st + 512 * s.aerr.toNat + 256 * s.werr.toNat + 16 * errCode s.err
    + 2 * s.done.toNat + s.busy.toNat

/-- The line configuration is usable (R170). -/
abbrev LineOk (x : Xcvr) : Prop := x.mult ≠ 0 ∧ x.chlen = 3 ∧ x.baud ≠ 0

/-- The transceiver is configured (R170). -/
abbrev Configured (x : Xcvr) : Prop := LineOk x ∧ x.txen = true ∧ x.rxen = true

/-- The three transactions that read a 16-bit register at an even offset (R65). -/
def readsAt (off : Byte) (i : RLane → Instr) : Prop :=
  decode (rd8 off) = .ok (i .lo) ∧ decode (rd8 (off + 1)) = .ok (i .hi) ∧
    decode (rd16 off) = .ok (i .whole)

/-- REQBUF[k], RESPBUF[k], PKT[k] by window offset (R41). -/
def req (s : State) (k : Nat) : Byte := s.readByte (0x40 + k)
def resp (s : State) (k : Nat) : Byte := s.readByte (0x80 + k)
def pkt (s : State) (k : Nat) : Byte := s.readByte (0xC0 + k)

/-- The text of REQBUF ends within its 60 bytes, that is, some byte of REQBUF[0..60] is 0x00 (R266). -/
abbrev IdOk (s : State) : Prop := ∃ k < 61, req s k = 0x00

/-- The code a start of an existing command reports, in the order of R301. -/
def startCode (c : Cmd) (s : State) : ErrCode :=
  if (c = .xchg ∧ (64 < s.sreqlen.toNat ∨ 64 < s.smaxresp.toNat))
      ∨ (c = .xnoack ∧ 64 < s.sreqlen.toNat) then .range
  else if c = .bcast ∧ ¬ IdOk s then .idLen
  else if c.bus = true ∧ ¬ Configured s.xc then .notReady
  else .noError

/-- The value of each command (R93). -/
def commandByte (c : Cmd) : Byte :=
  match c with
  | .init => 0x01 | .select => 0x02 | .waitack => 0x03 | .xbyte => 0x04 | .xchg => 0x05
  | .xnoack => 0x06 | .poll => 0x10 | .probe => 0x11 | .bcast => 0x12

/-- The instruction `cmd NAME` of each command (R99). -/
def commandInstr (c : Cmd) : Instr :=
  match c with
  | .init => .init | .select => .select | .waitack => .waitack | .xbyte => .xbyte | .xchg => .xchg
  | .xnoack => .xnoack | .poll => .poll | .probe => .probe | .bcast => .bcast

/-- The state a command's body starts from: SCMD stored, the status bits set, the operands latched
(R200). -/
def accepted (s : State) (c : Cmd) : State :=
  { s with
    scmd := commandByte c
    err := .noError
    done := false
    busy := true
    seq := { s.seq with
      cur := some c
      addr := s.saddr
      rl0 := s.sreqlen.toNat
      cap := s.smaxresp.toNat
      timeout := s.stimeout
      port := if s.sarg.getLsbD 0 then .port1 else .port0
      mask := BitVec.ofNat 2 s.sarg.toNat } }

/-- A command has ended (R205). -/
def ended (s : State) : State :=
  { s with
    st := .idle, busy := false, done := true, seq := { s.seq with cur := none, susp := none } }

/-- Attention is asserted on the selected port, and its rise recorded (R26, R174). -/
def attended (s : State) : State :=
  { s with
    xc := { s.xc with attn := true }
    wire := if s.xc.attn then s.wire else s.wire ++ [.attn s.now s.xc.port true] }

/-- The port takes a new value; where attention is asserted it moves, falling line first (R174). -/
def moved (s : State) (p : Port) : State :=
  { s with
    xc := { s.xc with port := p }
    wire := if s.xc.attn = true ∧ s.xc.port ≠ p then
        s.wire ++ [.attn s.now s.xc.port false, .attn s.now p true]
      else s.wire }

/-- XP has begun: it waits for T_PRE_US, or, where that is 0, for the settle delay (R230). -/
def exchangeBegun (s : State) : State :=
  if s.cfg.tPreUs = 0 then
    let u := attended { s with ack := false, xc := { s.xc with irq := false } }
    { u with st := .settle, seq := { u.seq with susp := some (.untilTick (s.now + 150)) } }
  else
    { s with
      st := .pre
      seq := { s.seq with susp := some (.untilTick (s.now + s.cfg.tPreUs)) } }

/-- The state with the packet routine's arguments (R230, R235, R44). -/
def withArgs (s : State) (addr : Byte) (src : ReqSrc) (rl0 cap : Nat) : State :=
  { s with seq := { s.seq with addr := addr, src := src, rl0 := rl0, cap := cap } }

/-! The routines of R230 and R235 from each of their waits on, as the pseudocode has them. A delay of 0
is passed at once (R201). `k` is what the routine's return does. -/

/-- Suspended on a condition (R201). -/
def waits (v : State) (w : Susp) : State := { v with seq := { v.seq with susp := some w } }

/-- In state `st` for `d` ticks (R201). -/
def sleeps (v : State) (st : SeqState) (d : Nat) : State :=
  waits { v with st := st } (.untilTick (v.now + d))

/-- Bytes at rising window offsets. -/
def putAt (v : State) (a : Nat) : List Byte → State
  | [] => v
  | b :: bs => putAt (v.writeByte a b) (a + 1) bs

/-- `SRC[i]` (R44). -/
def nextRequestByte (v : State) : Byte :=
  match v.seq.src with
  | .reqbuf => req v v.seq.i
  | .pkt => pkt v v.seq.i

/-- Attention is released, and its fall recorded (R26, R174). -/
def lowered (v : State) : State :=
  { v with
    xc := { v.xc with attn := false }
    wire := v.wire ++ (if v.xc.attn then [.attn v.now v.xc.port false] else []) }

/-- An empty BCAST keeps attention or releases it, by the free value (log 17). -/
def attnLeft (v : State) : State := if Config.emptyBcastKeepsAttn v.now then v else lowered v

/-- Attention is released and POST entered (R230, R235). -/
def released (k : State → State) (v : State) : State :=
  let u := { lowered v with st := .post }
  if v.cfg.tPostUs = 0 then k u else sleeps u .post v.cfg.tPostUs

/-- TRAIL is entered (R230, R235). -/
def trailed (k : State → State) (v : State) : State :=
  if v.cfg.tTrailUs = 0 then released k v else sleeps v .trail v.cfg.tTrailUs

/-- XNA's loop from its head, with the bytes of the FIFO as its argument: the next request byte goes to
the transmitter, or TRAIL is entered (R202, R235). A byte that is already in the FIFO is taken as the
reply at once (R351). -/
def sendNext (k : State → State) (fifo : List Byte) (v : State) : State :=
  if v.seq.rl = 0 then trailed k v
  else
    let b := nextRequestByte v
    let u := { v with
      st := .naByte, seq := { v.seq with i := v.seq.i + 1, rl := v.seq.rl - 1, xbByte := b } }
    match u.xc.txh with
    | some _ => waits u .txReady
    | none =>
      let w := State.tryLoad { u with xc := { u.xc with txh := some b } }
      match fifo with
      | [] => waits w .rxReady
      | _ :: rest =>
        let x := { w with xc := { w.xc with rxf := rest } }
        if v.cfg.tIbdUs = 0 then sendNext k rest x else sleeps x .naIbd v.cfg.tIbdUs

/-- The address byte's reply is dropped and the FIFO flushed, and XNA's loop begins (R235). -/
def sendAddressed (k : State → State) (v : State) : State :=
  sendNext k [] { v with xc := { v.xc with rxf := [] } }

/-- XNA has begun: attention is asserted, and the address byte waits for the holding register or goes to
the transmitter; its reply is waited for, or is a byte that is already in the FIFO (R202, R235, R351). -/
def sendBegun (k : State → State) (s : State) : State :=
  let u := attended s
  let u := { u with
    st := .naByte
    seq := { u.seq with i := 0, rl := u.seq.rl0, xbByte := u.seq.addr } }
  match u.xc.txh with
  | some _ => waits u .txReady
  | none =>
    let w := State.tryLoad { u with xc := { u.xc with txh := some u.seq.addr } }
    match w.xc.rxf with
    | [] => waits w .rxReady
    | _ :: _ => sendAddressed k w

/-- PROBE selects a port, builds its request and begins the exchange (R263). -/
def probing (p : Port) (v : State) : State :=
  exchangeBegun (withArgs
    (putAt (moved { v with seq := { v.seq with loopPort := p } } p) 0xC0
      [v.cfg.cmdProbe, 0x00, 0x00, 0x00, v.cfg.probeReq4])
    v.cfg.addrCard .pkt 5 5)

/-- BCAST has sent to the last port (R265). -/
def bcastEnded (v : State) : State := ended { v with sresplen := 0, sresult := 0 }

/-- The presence mask after the exchange on a port (R263, R264). -/
def presenceAfter (v : State) : BitVec 2 :=
  if v.seq.n = 5 ∧ resp v 2 = v.cfg.markC2 ∧ resp v 3 = v.cfg.markC3 then
    v.seq.presence ||| (match v.seq.loopPort with
      | .port0 => 0b01#2
      | .port1 => 0b10#2)
  else v.seq.presence

/-- What the return of a packet routine does, by command and port (R205, R230, R235, R261, R263, R265).
Other commands run no packet routine. -/
def packetEnded (v : State) : State :=
  let counted := { v with sresplen := BitVec.ofNat 8 v.seq.n }
  match v.seq.cur, v.seq.loopPort with
  | some .xchg, _ => ended counted
  | some .xnoack, _ => ended { v with sresplen := 0 }
  | some .poll, _ => ended { counted with
      sresult :=
        if 4 ≤ v.seq.n ∧ resp v 1 = v.cfg.markPad then
          BitVec.ofNat 16 (65535 - ((resp v 2).toNat + 256 * (resp v 3).toNat))
        else 0 }
  | some .probe, .port0 =>
    probing .port1 { counted with seq := { v.seq with presence := presenceAfter v } }
  | some .probe, .port1 =>
    ended { counted with
      sresult := BitVec.ofNat 16 (presenceAfter v).toNat
      seq := { v.seq with presence := presenceAfter v } }
  | some .bcast, .port0 =>
    let u := { v with seq := { v.seq with loopPort := .port1 } }
    if v.seq.mask.getLsbD 1 then sendBegun bcastEnded (moved u .port1) else bcastEnded u
  | some .bcast, .port1 => bcastEnded v
  | _, _ => { v with seq := { v.seq with susp := none } }

/-- The waiter has found a pulse: both latches are cleared (R203). -/
def caught (v : State) : State := { v with ack := false, xc := { v.xc with irq := false } }

/-- `RESPBUF[n] <- r; n <- n + 1` (R230). -/
def stored (r : Byte) (v : State) : State :=
  { v.writeByte (0x80 + v.seq.n) r with seq := { v.seq with n := v.seq.n + 1 } }

/-- XP's `while n < M` from its head, no pulse being latched: the next request byte, or the filler,
goes to the transmitter, or TRAIL is entered (R202, R203, R230). A byte that is already in the FIFO is
taken as the reply at once (R351). -/
def exchangeNext (k : State → State) (v : State) : State :=
  if v.seq.cap ≤ v.seq.n then trailed k v
  else
    let b : Byte := if v.seq.rl = 0 then 0x00 else nextRequestByte v
    let u := { v with
      st := .xfer
      seq := { v.seq with
        i := if v.seq.rl = 0 then v.seq.i else v.seq.i + 1
        rl := v.seq.rl - 1
        xbByte := b } }
    match u.xc.txh with
    | some _ => waits u .txReady
    | none =>
      let w := State.tryLoad { u with xc := { u.xc with txh := some b } }
      match w.xc.rxf with
      | [] => waits w .rxReady
      | r :: rest =>
        let x := stored r { w with xc := { w.xc with rxf := rest } }
        sleeps { x with seq := { x.seq with rem := 120 } } .dataAck 10

/-- The address has been acknowledged: the packet counters start anew and the FIFO is flushed (R230). -/
def addressAcked (k : State → State) (v : State) : State :=
  exchangeNext k { caught v with
    xc := { (caught v).xc with rxf := [] }
    seq := { v.seq with n := 0, i := 0, rl := v.seq.rl0 } }

/-- The waiter's first check, at offset 0, after the reply to an exchange's byte (R203, R230). -/
def firstCheck (k : State → State) (v : State) : State :=
  let u := { v with seq := { v.seq with rem := 120 } }
  match v.st with
  | .addr => if v.ack then addressAcked k u else sleeps u .addrAck 10
  | _ => if v.ack then exchangeNext k (caught u) else sleeps u .dataAck 10

/-- XB has returned `r`: what the sequencer's state makes of it (R209, R230, R235). In NABYTE `i` is 0
exactly for the address byte, which is the model's mark (log 12). -/
def replied (k : State → State) (r : Byte) (v : State) : State :=
  match v.st with
  | .addr => firstCheck k v
  | .xfer => firstCheck k (stored r v)
  | .byteCmd => ended { v with sresult := BitVec.ofNat 16 r.toNat }
  | _ =>
    if v.seq.i = 0 then sendAddressed k v
    else if v.cfg.tIbdUs = 0 then sendNext k v.xc.rxf v
    else sleeps v .naIbd v.cfg.tIbdUs

/-- XB once TXRDY holds: its byte goes to the transmitter, and the reply is waited for, or is the FIFO's
head (R202, R351). -/
def byteGiven (k : State → State) (v : State) : State :=
  let w := State.tryLoad { v with xc := { v.xc with txh := some v.seq.xbByte } }
  match w.xc.rxf with
  | [] => waits w .rxReady
  | r :: rest => replied k r { w with xc := { w.xc with rxf := rest } }

/-- After the settle delay the address byte waits for the holding register or is given (R230). -/
def exchangeAddressed (k : State → State) (v : State) : State :=
  let u := { v with st := .addr, seq := { v.seq with xbByte := v.seq.addr } }
  match u.xc.txh with
  | some _ => waits u .txReady
  | none => byteGiven k u

/-- A command is suspended at a point of its body with its counters in their bounds (R200, R211, R232):
parts of the invariant that every step keeps, which the phases of a tick before the sequencer's leave
alone. -/
abbrev Underway (s : State) : Prop :=
  s.CountInv ∧ ∃ c w, s.seq.cur = some c ∧ s.seq.susp = some w ∧ waitsAt c s.st w = true

/-- The ticks within which each command ends, from its START on (R361). -/
def commandBound (c : Cmd) (s : State) : Nat :=
  let b := 3 * s.cfg.byteUs
  let exchange (m : Nat) :=
    s.cfg.tPreUs + 150 + (1 + m) * (b + 120) + s.cfg.tTrailUs + s.cfg.tPostUs
  let send (l : Nat) := b + l * (b + s.cfg.tIbdUs) + s.cfg.tTrailUs + s.cfg.tPostUs
  match c with
  | .init | .select => 0
  | .waitack => 10 * ((s.stimeout.toNat + 9) / 10)
  | .xbyte => b
  | .xchg => exchange s.smaxresp.toNat
  | .xnoack => send s.sreqlen.toNat
  | .poll => exchange 32
  | .probe => 2 * exchange 5
  | .bcast => 2 * send 64

/-- The writes of the host port other than WR.SSTAT, by their instruction (R121). -/
def filteredWrite (i : Instr) : Bool :=
  match i with
  | .misalign16 (.write _) _ | .wide24 (.write _) | .wide26 (.write _) | .unmapped (.write _) _ => true
  | .rz01 (.write _) | .rz21 (.write _) | .rz29 (.write _) => true
  | .wrData _ | .wrStat _ | .wrMode _ | .wrCtrl _ | .wrBaud _ | .wrIstat _ | .wrScmd _
  | .wrSaddr _ | .wrSarg _ | .wrSreqlen _ | .wrSmaxresp _ | .wrSresplen _ | .wrSresult _
  | .wrStimeout _ | .wrReqbuf _ _ | .wrRespbuf _ _ | .wrPkt _ _ => true
  | .init | .select | .waitack | .xbyte | .xchg | .xnoack | .poll | .probe | .bcast
  | .reservedCmd _ => true
  | _ => false

/-- The accesses that no state accepts, by their instruction, where they read (R156 to R158). -/
def unacceptedRead (i : Instr) : Bool :=
  match i with
  | .misalign16 .read _ | .wide24 .read | .wide26 .read | .unmapped (.read _) _ => true
  | _ => false

/-- The same where they write (R126, R156 to R158). -/
def unacceptedWrite (i : Instr) : Bool :=
  match i with
  | .misalign16 (.write _) _ | .wide24 (.write _) | .wide26 (.write _) | .unmapped (.write _) _ => true
  | .wrStat _ | .wrSresplen _ | .wrSresult _ | .wrPkt _ _ => true
  | _ => false

/-- The instructions that may change CTRL.PORT (R178). -/
def mayMovePort (i : Instr) : Bool :=
  match i with
  | .wrCtrl _ | .init | .select | .poll | .probe | .bcast => true
  | .wrScmd (.w8 b) => b = 0x01 ∨ b = 0x02 ∨ b = 0x10 ∨ b = 0x11 ∨ b = 0x12
  | .wrScmd (.w16 h) => h.toNat % 256 ∈ [0x01, 0x02, 0x10, 0x11, 0x12]
  | _ => false

/-- The devices do not pulse acknowledge in the next `k` ticks: the premise `Absent` (R28). -/
def noPulse (k : Nat) (s : State) : Prop := ∀ j < k, ∃ d, s.dev[j]? = some d ∧ d.ack = false

/-- `k` ticks in which the host does nothing. -/
def ticks (k : Nat) (s : State) : State := State.tick^[k] s

/-- The wire record without the acknowledge pulses. -/
def driven (w : List WireEvent) : List WireEvent :=
  w.filter (fun e => match e with | .ack _ => false | _ => true)

/-- The level of port `p`'s attention line after the events of a record, from a level before it; none
where an event of the line is no change of it. -/
def replay (p : Port) (level : Bool) : List WireEvent → Option Bool
  | [] => some level
  | .attn _ q new :: w =>
    if q = p then (if new = level then none else replay p new w) else replay p level w
  | .shift .. :: w => replay p level w
  | .ack _ :: w => replay p level w

/-- The duration of a WAIT(T) without a pulse, `ceil(T / 10) * 10` (R203). -/
def waitTicks (t : Nat) : Nat := 10 * ((t + 9) / 10)

/-- The duration of XP with an absent device (R233). -/
def absentTicks (p : Params) : Nat :=
  p.tPreUs + 150 + p.byteUs + 120 + p.tTrailUs + p.tPostUs

/-- The duration of XNA with a request of `len` bytes (R236). -/
def sendTicks (p : Params) (len : Nat) : Nat :=
  p.byteUs + len * (p.byteUs + p.tIbdUs) + p.tTrailUs + p.tPostUs

end Sys2Proof.Claims

open Sys2Proof.Claims

/-! ### Encoding -/

/-- Decoding the encoding of a well-formed instruction gives it back (R91 to R93, R95; the layout of a
host line as bytes is the model's, log 2 and log 3). -/
def Obligations.DecodeOfEncode : Prop := ∀ i : Instr, i.wf = true → decode (encode i) = .ok i

/-- Each host line has one meaning: what a line decodes to is well-formed, and the line is its encoding
(R90 to R93; the layout is the model's, log 2 and log 3). -/
def Obligations.DecodedLineIsItsEncoding : Prop :=
  ∀ (bytes : List Byte) (i : Instr), decode bytes = .ok i → i.wf = true ∧ encode i = bytes

/-- Codes of 95_test_vectors.md L2.1 and the commands of R93 decode as their tables say (R91 to R93; that
a host line is these bytes is the model's choice, log 2 and log 3). -/
def Obligations.SpecWordsDecode : Prop :=
  decode [0x00, 0x01] = .ok (.rdData .w16) ∧
  decode [0x01, 0x02, 0xAB] = .ok (.rz01 (.write 0xAB)) ∧
  decode [0x0B, 0x01] = .ok (.misalign16 .read 0x0B) ∧
  decode [0x0A, 0x03, 0x07, 0x30] = .ok (.wrCtrl (.whole 0x3007)) ∧
  decode [0x12, 0x00] = .ok (.unmapped (.read .w8) 0x12) ∧
  decode [0x22, 0x01] = .ok (.rdSstat .whole) ∧
  decode [0x24, 0x03, 0x01, 0x00] = .ok (.wide24 (.write 0x0001)) ∧
  decode [0x7F, 0x02, 0x41] = .ok (.wrReqbuf (.w8 0x41) 63) ∧
  decode [0xFE, 0x01] = .ok (.rdPkt .w16 62) ∧
  decode [0x10] = .ok .poll ∧
  decode [0x13] = .ok (.reservedCmd 0x13)

/-! ### One step -/

/-- A host line that decodes runs as its instruction, at the current tick, and is used up; a line that
does not is refused by the decoder's reason (R24, R66, R120; the list of host lines is the model's,
log 1). -/
def Obligations.StepRunsTheDecodedLine : Prop :=
  ∀ (s : State) (bytes : List Byte) (rest : List HostEvent), s.host = .line bytes :: rest →
    (∀ i, decode bytes = .ok i → step s = exec i { s with host := rest }) ∧
    (decode bytes = .error .transactionSize → step s = .refused .transactionSize) ∧
    (decode bytes = .error .codeWidth → step s = .refused .codeWidth)

/-- Where the host does nothing more in this tick, the next tick runs its three phases in order, under
the devices' next input (R24; the lists are the model's, log 1 and log 5). -/
def Obligations.StepRunsThePhasesInOrder : Prop :=
  ∀ s : State, (s.host = [] ∨ ∃ rest, s.host = .endPhase :: rest) →
    ∃ d : DevInput, (∀ d' ds, s.dev = d' :: ds → d = d') ∧
      step s = .next (State.sequencerPhase (State.ackPhase (State.transceiverPhase
        { s with now := s.now + 1, host := s.host.tail, dev := s.dev.tail } d.rx) d.ack))

/-! ### Invariants -/

/-- The invariant holds after the block reset at power-on. -/
def Obligations.InvariantHoldsAtReset : Prop := State.reset.Inv

/-- Every step keeps the invariant: the parameters' constraints, the memory's canonical form, the
transceiver's and the sequencer's consistency, the packet counters' bounds, and attention asserted
exactly where the routines assert it (R42, R171, R200, R201, R211, R232, R237). -/
def Obligations.EveryStepKeepsTheInvariant : Prop :=
  ∀ s t : State, s.Inv → step s = .next t → t.Inv

/-- The memory list keeps its canonical form in every step, whatever else the state holds (the form is
the model's, log 7). -/
def Obligations.EveryStepKeepsTheMemoryForm : Prop :=
  ∀ s t : State, s.mem.wf = true → step s = .next t → t.mem.wf = true

/-- No step changes the parameters or the count of block resets, the tick counter moves by at most
one, and the wire record only grows (R7, R23, R26). -/
def Obligations.EveryStepKeepsParametersAndRecord : Prop :=
  ∀ s t : State, step s = .next t →
    t.cfg = s.cfg ∧ t.resets = s.resets ∧ (t.now = s.now ∨ t.now = s.now + 1) ∧ s.wire <+: t.wire

/-- Every change of an attention line is recorded, once and in order, and nothing but a change is: the
events a step appends lead from the line's level before it to its level after it (R26, R174). -/
def Obligations.EveryAttentionChangeIsRecorded : Prop :=
  ∀ s t : State, step s = .next t → ∃ w, t.wire = s.wire ++ w ∧
    ∀ p, replay p (s.attnLine p) w = some (t.attnLine p)

/-- The zero-time actions from any point of a body, in any state, come to a suspension or an end
within the bound the sequencer phase runs them for (R201; the bound is the model's, log 13). -/
def Obligations.BodiesComeToRest : Prop :=
  ∀ (a : Act) (s : State), (runActs actBound a s).2 = none

/-! ### Reset -/

/-- What the block reset leaves, at any moment, and at power-on; each buffer byte is a draw of its own,
a constant without a body (R340). -/
def Obligations.BlockResetState : Prop :=
  (∀ s : State,
    let t := s.blockReset
    ctrlValue t.xc = 0 ∧ modeValue t.xc = 0 ∧ t.xc.baud = 0 ∧ t.xc.txh = none ∧ t.xc.sh = none ∧
    t.xc.rxf = [] ∧ statValue t.xc = 0x0005 ∧ t.ack = false ∧ t.scmd = 0 ∧ sstatValue t = 0 ∧
    t.saddr = 0 ∧ t.sarg = 0 ∧ t.sreqlen = 0 ∧ t.smaxresp = 0 ∧ t.sresplen = 0 ∧ t.sresult = 0 ∧
    t.stimeout = 0 ∧ t.seq.cur = none ∧ t.seq.susp = none ∧ t.seq.n = 0 ∧ t.seq.i = 0 ∧
    t.seq.rl = 0 ∧ t.seq.rem = 0 ∧ t.attnLine .port0 = false ∧ t.attnLine .port1 = false ∧
    t.ackIrq = false ∧ t.now = s.now ∧
    (∀ a, t.readByte a = Config.bufferDraw (s.resets + 1) a) ∧
    t.wire = s.wire ++ (if s.xc.attn then [.attn s.now s.xc.port false] else [])) ∧
  State.reset.xc = State.reset.blockReset.xc ∧ State.reset.seq = State.reset.blockReset.seq ∧
  sstatValue State.reset = 0 ∧ State.reset.now = 0 ∧ State.reset.wire = []

/-- A block reset brings the machine into its invariant from any state whatever (R340, R341). -/
def Obligations.BlockResetRestoresTheInvariant : Prop :=
  ∀ s : State, s.cfg.Ok → s.blockReset.Inv ∧ s.blockReset.cfg = s.cfg

/-! ### Whole-machine rules of the host port -/

/-- While BUSY every transaction completes, and the host changes nothing but WERR, AERR and the value
its read returned (R70, R121, R354). -/
def Obligations.BusyHostChangesOnlyErrorBits : Prop :=
  ∀ (i : Instr) (s : State), s.busy = true →
    ∃ (w a : Bool) (x : Half), exec i s = .next { s with werr := w, aerr := a, rdata := x }

/-- The busy filter: a write other than WR.SSTAT, and a read of DATA, raise WERR and have no other
effect; the read returns 0 (R121). -/
def Obligations.BusyFilterRaisesWerr : Prop :=
  ∀ s : State, s.busy = true →
    (∀ i, filteredWrite i = true → exec i s = .next { s with werr := true }) ∧
    (∀ w, exec (.rdData w) s = .next { s with werr := true, rdata := 0 })

/-- CTRL.PORT changes only by a write of CTRL, by INIT, SELECT, POLL, PROBE and BCAST, and while one of
the last two runs; no packet exchange or send of the host's changes it (R178). -/
def Obligations.SelectedPortPersists : Prop :=
  (∀ (i : Instr) (s t : State), mayMovePort i = false → exec i s = .next t →
    t.xc.port = s.xc.port) ∧
  (∀ s : State, s.seq.cur ≠ some .probe → s.seq.cur ≠ some .bcast →
    s.tick.xc.port = s.xc.port)

/-! ### Reads -/

/-- The reads of STAT, CTRL, MODE, BAUD and ISTAT, from their codes to the register's addressed bytes;
nothing else changes, in every state (R125, R127, R129, R131, R133). -/
def Obligations.TransceiverRegisterReads : Prop :=
  readsAt 0x04 .rdStat ∧ readsAt 0x0A .rdCtrl ∧ readsAt 0x08 .rdMode ∧ readsAt 0x0E .rdBaud ∧
  readsAt 0x10 .rdIstat ∧
  ∀ (l : RLane) (s : State),
    exec (.rdStat l) s = .next { s with rdata := lane l (statValue s.xc) } ∧
    exec (.rdCtrl l) s = .next { s with rdata := lane l (ctrlValue s.xc) } ∧
    exec (.rdMode l) s = .next { s with rdata := lane l (modeValue s.xc) } ∧
    exec (.rdBaud l) s = .next { s with rdata := lane l s.xc.baud.toNat } ∧
    exec (.rdIstat l) s = .next { s with rdata := lane l (128 * s.ack.toNat) }

/-- The reads of SADDR, SARG, SREQLEN, SMAXRESP, SRESPLEN, STIMEOUT, SCMD, SSTAT and SRESULT, from their
codes to the value returned, zero-extended; nothing else changes, in every state (R135, R137, R139,
R141, R143, R145, R147, R148, R149). -/
def Obligations.SequencerRegisterReads : Prop :=
  decode (rd8 0x24) = .ok .rdSaddr ∧ decode (rd8 0x25) = .ok .rdSarg ∧
  decode (rd8 0x26) = .ok .rdSreqlen ∧ decode (rd8 0x27) = .ok .rdSmaxresp ∧
  decode (rd8 0x28) = .ok (.rdSresplen .w8) ∧ decode (rd16 0x28) = .ok (.rdSresplen .w16) ∧
  decode (rd8 0x20) = .ok (.rdScmd .w8) ∧ decode (rd16 0x20) = .ok (.rdScmd .w16) ∧
  readsAt 0x2C .rdStimeout ∧ readsAt 0x22 .rdSstat ∧ readsAt 0x2A .rdSresult ∧
  ∀ (l : RLane) (w : Width) (s : State),
    exec .rdSaddr s = .next { s with rdata := BitVec.ofNat 16 s.saddr.toNat } ∧
    exec .rdSarg s = .next { s with rdata := BitVec.ofNat 16 s.sarg.toNat } ∧
    exec .rdSreqlen s = .next { s with rdata := BitVec.ofNat 16 s.sreqlen.toNat } ∧
    exec .rdSmaxresp s = .next { s with rdata := BitVec.ofNat 16 s.smaxresp.toNat } ∧
    exec (.rdSresplen w) s = .next { s with rdata := BitVec.ofNat 16 s.sresplen.toNat } ∧
    exec (.rdStimeout l) s = .next { s with rdata := lane l s.stimeout.toNat } ∧
    exec (.rdScmd w) s = .next { s with rdata := BitVec.ofNat 16 s.scmd.toNat } ∧
    exec (.rdSstat l) s = .next { s with rdata := lane l (sstatValue s) } ∧
    exec (.rdSresult l) s = .next { s with rdata := lane l s.sresult.toNat }

/-- A read of a buffer returns the byte at its offset, and with 16 bits the next byte above it;
nothing else changes, in every state (R61, R151, R153, R155).
Where the returned value is left is the model's choice (log 4). -/
def Obligations.BufferReads : Prop :=
  ∀ (k : BitVec 6) (s : State),
    exec (.rdReqbuf .w8 k) s = .next { s with rdata := BitVec.ofNat 16 (req s k.toNat).toNat } ∧
    exec (.rdRespbuf .w8 k) s = .next { s with rdata := BitVec.ofNat 16 (resp s k.toNat).toNat } ∧
    exec (.rdPkt .w8 k) s = .next { s with rdata := BitVec.ofNat 16 (pkt s k.toNat).toNat } ∧
    (k.getLsbD 0 = false →
      exec (.rdReqbuf .w16 k) s = .next { s with rdata := twoBytes (req s k.toNat) (req s (k.toNat + 1)) } ∧
      exec (.rdRespbuf .w16 k) s = .next { s with rdata := twoBytes (resp s k.toNat) (resp s (k.toNat + 1)) } ∧
      exec (.rdPkt .w16 k) s = .next { s with rdata := twoBytes (pkt s k.toNat) (pkt s (k.toNat + 1)) })

/-- A read of DATA pops the FIFO's head, zero-extended at either width; on an empty FIFO it raises AERR
and returns 0; while BUSY it raises WERR, returns 0 and pops nothing (R122).
Where the returned value is left is the model's choice (log 4). -/
def Obligations.DataReads : Prop :=
  decode (rd8 0x00) = .ok (.rdData .w8) ∧ decode (rd16 0x00) = .ok (.rdData .w16) ∧
  ∀ (w : Width) (s : State),
    (s.busy = false → ∀ b rest, s.xc.rxf = b :: rest →
      exec (.rdData w) s =
        .next { s with xc := { s.xc with rxf := rest }, rdata := BitVec.ofNat 16 b.toNat }) ∧
    (s.busy = false → s.xc.rxf = [] →
      exec (.rdData w) s = .next { s with aerr := true, rdata := 0 }) ∧
    (s.busy = true → exec (.rdData w) s = .next { s with werr := true, rdata := 0 })

/-! ### Accesses without effect, and accesses that are not accepted -/

/-- The RZ bytes read 0 and ignore writes; a write while BUSY raises WERR (R124).
Where the returned value is left is the model's choice (log 4). -/
def Obligations.RzBytes : Prop :=
  decode (rd8 0x01) = .ok (.rz01 .read) ∧ decode (rd8 0x21) = .ok (.rz21 .read) ∧
  decode (rd8 0x29) = .ok (.rz29 .read) ∧
  (∀ b, decode (wr8 0x01 b) = .ok (.rz01 (.write b)) ∧
    decode (wr8 0x21 b) = .ok (.rz21 (.write b)) ∧ decode (wr8 0x29 b) = .ok (.rz29 (.write b))) ∧
  ∀ (b : Byte) (s : State) (i : Access8 → Instr), i = .rz01 ∨ i = .rz21 ∨ i = .rz29 →
    exec (i .read) s = .next { s with rdata := 0 } ∧
    exec (i (.write b)) s = .next (if s.busy then { s with werr := true } else s)

/-- A misaligned 16-bit access, a 16-bit access at 0x24 or 0x26, an access of an unmapped offset and a
write of a read-only register raise AERR, a read returns 0, and nothing else changes; a write while
BUSY raises WERR instead (R126, R156, R157, R158).
Where the returned value is left is the model's choice (log 4). -/
def Obligations.UnacceptedAccesses : Prop :=
  ∀ (i : Instr) (s : State),
    (unacceptedRead i = true → exec i s = .next { s with aerr := true, rdata := 0 }) ∧
    (unacceptedWrite i = true → exec i s =
      .next (if s.busy then { s with werr := true } else { s with aerr := true }))

/-! ### Writes -/

/-- The writes of SADDR, SARG, SREQLEN, SMAXRESP and STIMEOUT store their value and change nothing else;
while BUSY they only raise WERR (R95, R121, R140, R142, R144, R146, R150). -/
def Obligations.ParameterWrites : Prop :=
  ∀ (b : Byte) (l : WLane) (s : State),
    let orWerr (u : State) : Result := .next (if s.busy then { s with werr := true } else u)
    decode (wr8 0x25 b) = .ok (.wrSarg b) ∧
    exec (.wrSaddr b) s = orWerr { s with saddr := b } ∧
    exec (.wrSarg b) s = orWerr { s with sarg := b } ∧
    exec (.wrSreqlen b) s = orWerr { s with sreqlen := b } ∧
    exec (.wrSmaxresp b) s = orWerr { s with smaxresp := b } ∧
    exec (.wrStimeout l) s =
      orWerr { s with stimeout := BitVec.ofNat 16 (merged l s.stimeout.toNat) }

/-- The writes of MODE and BAUD store the merged value, MODE its two fields only, and then a held byte
is tried for the shifter (R95, R130, R132). -/
def Obligations.ModeAndBaudWrites : Prop :=
  ∀ (l : WLane) (s : State), s.busy = false →
    exec (.wrMode l) s = .next (State.tryLoad { s with xc := { s.xc with
      mult := BitVec.ofNat 2 (merged l (modeValue s.xc))
      chlen := BitVec.ofNat 2 (merged l (modeValue s.xc) / 4) } }) ∧
    exec (.wrBaud l) s = .next (State.tryLoad { s with xc := { s.xc with
      baud := BitVec.ofNat 16 (merged l s.xc.baud.toNat) } })

/-- A write of CTRL with the RESET bit resets the transceiver and ignores its other bits; otherwise
the ACKCLR bit clears STAT.IRQ and STAT.RXOVR, the five fields take the merged value's bits, the
attention lines follow with the falling line recorded first, and a held byte is tried for the
shifter. A pulse bit acts only in a written low byte, ISTAT.ACK stays, and while BUSY the write only
raises WERR (R95, R128, R174, R176, R177). That the Attn events stand before the Shift event of that load
is the model's inference (log 15). -/
def Obligations.CtrlWrites : Prop :=
  ∀ (l : WLane) (s : State),
    let v := merged l (ctrlValue s.xc)
    let port := if v.testBit 13 then Port.port1 else .port0
    (s.busy = false → v.testBit 6 = true → exec (.wrCtrl l) s = .next { s with
      xc := Xcvr.reset
      wire := s.wire ++ (if s.xc.attn then [.attn s.now s.xc.port false] else []) }) ∧
    (s.busy = false → v.testBit 6 = false → exec (.wrCtrl l) s = .next (State.tryLoad { s with
      xc := { s.xc with
        txen := v.testBit 0
        attn := v.testBit 1
        rxen := v.testBit 2
        ackie := v.testBit 12
        port := port
        irq := s.xc.irq && !v.testBit 4
        rxovr := s.xc.rxovr && !v.testBit 4 }
      wire := s.wire ++
        (if s.xc.attn = true ∧ (v.testBit 1 = false ∨ port ≠ s.xc.port) then
          [.attn s.now s.xc.port false] else []) ++
        (if v.testBit 1 = true ∧ (s.xc.attn = false ∨ port ≠ s.xc.port) then
          [.attn s.now port true] else []) })) ∧
    (∀ b, l = .hi b → v.testBit 6 = false ∧ v.testBit 4 = false) ∧
    (s.busy = true → exec (.wrCtrl l) s = .next { s with werr := true })

/-- A write of ISTAT keeps ACK only where its written low byte has bit 7; it never sets it, and a write
of the high byte changes nothing (R134). -/
def Obligations.IstatWrites : Prop :=
  ∀ (b : Byte) (h : Half) (s : State), s.busy = false →
    exec (.wrIstat (.lo b)) s = .next { s with ack := s.ack && b.toNat.testBit 7 } ∧
    exec (.wrIstat (.whole h)) s = .next { s with ack := s.ack && h.toNat.testBit 7 } ∧
    exec (.wrIstat (.hi b)) s = .next s

/-- A write of SSTAT is accepted at any time; bits 8 and 9 of a written high byte clear WERR and AERR,
and every other field ignores it (R138). -/
def Obligations.SstatWrites : Prop :=
  ∀ (b : Byte) (h : Half) (s : State),
    exec (.wrSstat (.lo b)) s = .next s ∧
    exec (.wrSstat (.hi b)) s = .next { s with
      werr := s.werr && !b.toNat.testBit 0, aerr := s.aerr && !b.toNat.testBit 1 } ∧
    exec (.wrSstat (.whole h)) s = .next { s with
      werr := s.werr && !h.toNat.testBit 8, aerr := s.aerr && !h.toNat.testBit 9 }

/-- A write of DATA under a usable line configuration: with the holding register full the byte is
dropped with AERR; otherwise it starts a shift at once where the transmitter is enabled and the
shifter idle, and waits in the holding register where not (R123, R171, R173). -/
def Obligations.DataWrites : Prop :=
  ∀ (d : WData) (b : Byte) (s : State), s.busy = false → LineOk s.xc →
    (d = .w8 b ∨ ∃ h, d = .w16 h ∧ b = BitVec.ofNat 8 h.toNat) →
    (s.xc.txh.isSome = true → exec (.wrData d) s = .next { s with aerr := true }) ∧
    (s.xc.txh = none → s.xc.txen = true → s.xc.sh = none → exec (.wrData d) s = .next { s with
      xc := { s.xc with sh := some (b, s.now + s.cfg.byteUs) }
      wire := s.wire ++ [.shift s.now s.xc.port s.xc.attn b] }) ∧
    (s.xc.txh = none → s.xc.txen = false ∨ s.xc.sh.isSome = true →
      exec (.wrData d) s = .next { s with xc := { s.xc with txh := some b } })

/-- A write of DATA is refused, by the model and under a name of its own, exactly where no command runs
and the line configuration is unusable (R123, R170). -/
def Obligations.DataWriteRefusedExactlyWithoutLine : Prop :=
  ∀ (d : WData) (s : State),
    (exec (.wrData d) s = .refused .lineNotOk ↔ s.busy = false ∧ ¬ LineOk s.xc) ∧
    (∀ r, exec (.wrData d) s = .refused r → r = .lineNotOk)

/-- No other instruction is ever refused: each answers a next state, in every state (R27, R304). -/
def Obligations.EveryOtherInstructionCompletes : Prop :=
  ∀ (i : Instr) (s : State), (∀ d, i ≠ .wrData d) → ∃ t, exec i s = .next t

/-- A write of a buffer stores its bytes, the low byte at the lower offset, and changes no other byte
and nothing else of the state (R61, R152, R154). -/
def Obligations.BufferWrites : Prop :=
  ∀ (b : Byte) (h : Half) (k : BitVec 6) (s : State), s.busy = false →
    (∀ (i : WData → BitVec 6 → Instr) (base : Nat),
      (i = .wrReqbuf ∧ base = 0x40) ∨ (i = .wrRespbuf ∧ base = 0x80) →
      (∃ t, exec (i (.w8 b) k) s = .next t ∧ t = { s with mem := t.mem } ∧
        ∀ a, t.readByte a = if a = base + k.toNat then b else s.readByte a) ∧
      (k.getLsbD 0 = false → ∃ t, exec (i (.w16 h) k) s = .next t ∧ t = { s with mem := t.mem } ∧
        ∀ a, t.readByte a =
          if a = base + k.toNat then BitVec.ofNat 8 h.toNat
          else if a = base + k.toNat + 1 then BitVec.ofNat 8 (h.toNat / 256)
          else s.readByte a))

/-- A write of SCMD is the command its low byte encodes, at either width; in particular `cmd NAME` is
`wr8 SCMD, v` (R99, R136). -/
def Obligations.CommandByteWrite : Prop :=
  (∀ (b : Byte) (s : State), exec (.wrScmd (.w8 b)) s = exec (decodeCmd8 b) s) ∧
  (∀ (h : Half) (s : State),
    exec (.wrScmd (.w16 h)) s = exec (decodeCmd8 (BitVec.ofNat 8 h.toNat)) s) ∧
  (∀ (d : WData) (b : Byte) (s : State), s.busy = false →
    (d = .w8 b ∨ ∃ h, d = .w16 h ∧ b = BitVec.ofNat 8 h.toNat) →
    ∃ t, exec (.wrScmd d) s = .next t ∧ t.scmd = b)

/-! ### START -/

/-- A write of SCMD with a reserved value, and the reserved command itself, is rejected: SCMD holds the
value, ERR is ILLCMD, DONE is 1, BUSY stays 0 and nothing else changes (R210). -/
def Obligations.ReservedCommandIsRejected : Prop :=
  ∀ (v : Byte) (s : State), s.busy = false →
    exec (.reservedCmd v) s = .next { s with scmd := v, err := .illCmd, done := true } ∧
    (v.toNat = 0x00 ∨ (0x07 ≤ v.toNat ∧ v.toNat ≤ 0x0F) ∨ 0x13 ≤ v.toNat →
      decode [v] = .ok (.reservedCmd v) ∧
      ∀ d : WData, d = .w8 v ∨ (∃ h, d = .w16 h ∧ v = BitVec.ofNat 8 h.toNat) →
        exec (.wrScmd d) s = .next { s with scmd := v, err := .illCmd, done := true })

/-- A start that meets a cause is rejected with the code of highest priority, and nothing but SCMD, ERR
and DONE changes (R200, R266, R300, R301). -/
def Obligations.StartRejections : Prop :=
  ∀ (c : Cmd) (s : State), s.busy = false → startCode c s ≠ .noError →
    exec (commandInstr c) s =
      .next { s with scmd := commandByte c, err := startCode c s, done := true }

/-- INIT ends inside its START: the transceiver is reset and configured, attention falls, and ISTAT.ACK,
the results, the parameters and the buffers stay; a second INIT changes nothing (R206). -/
def Obligations.InitConfiguresTheTransceiver : Prop :=
  ∀ s : State, s.busy = false → ∃ t, exec .init s = .next t ∧
    t = ended { accepted s .init with
      xc := { Xcvr.reset with
        txen := true
        rxen := true
        ackie := true
        chlen := 3
        mult := 1
        baud := BitVec.ofNat 16 (s.cfg.sysclkHz / 250000) }
      wire := s.wire ++ (if s.xc.attn then [.attn s.now s.xc.port false] else []) } ∧
    ctrlValue t.xc = 0x1005 ∧ modeValue t.xc = 0x000D ∧ statValue t.xc = 0x0005 ∧
    exec .init t = .next t

/-- SELECT ends inside its START: CTRL.PORT takes SARG[0], and asserted attention moves with it
(R207). -/
def Obligations.SelectSetsThePort : Prop :=
  ∀ s : State, s.busy = false → exec .select s =
    .next (ended (moved (accepted s .select) (if s.sarg.getLsbD 0 then .port1 else .port0)))

/-- WAITACK with a zero timeout ends at once with 0, even with a latched pulse; with a latched pulse it
ends at once with 1 and both latches clear; otherwise it polls again after 10 ticks (R203, R208). -/
def Obligations.WaitackStart : Prop :=
  ∀ s : State, s.busy = false →
    let u := { accepted s .waitack with
      seq := { (accepted s .waitack).seq with rem := (s.stimeout.toNat : Int) } }
    (s.stimeout = 0 → exec .waitack s = .next (ended { u with sresult := 0 })) ∧
    (s.stimeout ≠ 0 → s.ack = true → exec .waitack s =
      .next (ended { u with sresult := 1, ack := false, xc := { s.xc with irq := false } })) ∧
    (s.stimeout ≠ 0 → s.ack = false → exec .waitack s =
      .next { u with
        st := .waitCmd
        seq := { u.seq with susp := some (.untilTick (s.now + 10)) } })

/-- XBYTE: with the holding register full it waits for it; otherwise REQBUF[0] goes to the transmitter,
and it waits for a reply, or, where the FIFO holds bytes, ends at once with the FIFO's head (R202,
R209).
Where the state holds a routine's arguments is the model's choice (log 12). -/
def Obligations.XbyteStart : Prop :=
  ∀ s : State, s.busy = false → Configured s.xc →
    let v := req s 0
    let u := { accepted s .xbyte with
      st := .byteCmd, seq := { (accepted s .xbyte).seq with xbByte := v } }
    let sent := State.tryLoad { u with xc := { u.xc with txh := some v } }
    (s.xc.txh.isSome = true →
      exec .xbyte s = .next { u with seq := { u.seq with susp := some .txReady } }) ∧
    (s.xc.txh = none → s.xc.rxf = [] →
      exec .xbyte s = .next { sent with seq := { sent.seq with susp := some .rxReady } }) ∧
    (s.xc.txh = none → ∀ r rest, s.xc.rxf = r :: rest →
      exec .xbyte s = .next (ended { sent with
        xc := { sent.xc with rxf := rest }, sresult := BitVec.ofNat 16 r.toNat }))

/-- XCHG begins an exchange and XNOACK a send of the host's request with the latched operands, stale
replies in the FIFO included (R200, R230, R235, R351). An Attn event stands before a Shift event of the
same instant by the model's inference (log 15).
Where the state holds a routine's arguments is the model's choice (log 12). -/
def Obligations.HostPacketStarts : Prop :=
  ∀ s : State, s.busy = false →
    (startCode .xchg s = .noError → exec .xchg s = .next (exchangeBegun
      (withArgs (accepted s .xchg) s.saddr .reqbuf s.sreqlen.toNat s.smaxresp.toNat))) ∧
    (startCode .xnoack s = .noError →
      exec .xnoack s = .next (sendBegun packetEnded
        (withArgs (accepted s .xnoack) s.saddr .reqbuf s.sreqlen.toNat s.smaxresp.toNat)))

/-- POLL builds its four request bytes in PKT, selects the port SARG[0] and begins an exchange with the
input-controller class (R261).
Where the state holds a routine's arguments is the model's choice (log 12). -/
def Obligations.PollStart : Prop :=
  ∀ s : State, s.busy = false → startCode .poll s = .noError →
    ∃ m, exec .poll s = .next (exchangeBegun (withArgs
        (moved { accepted s .poll with mem := m } (if s.sarg.getLsbD 0 then .port1 else .port0))
        s.cfg.addrPad .pkt 4 32)) ∧
      ∀ a, State.readByte { s with mem := m } a =
        if a = 0xC0 then s.cfg.cmdPoll
        else if 0xC1 ≤ a ∧ a ≤ 0xC3 then 0x00
        else s.readByte a

/-- PROBE selects port 0, builds its five request bytes in PKT and begins an exchange with the storage
class, with an empty presence mask (R263).
Where the state holds a routine's arguments is the model's choice (log 12). -/
def Obligations.ProbeStart : Prop :=
  ∀ s : State, s.busy = false → startCode .probe s = .noError →
    ∃ m, exec .probe s = .next (exchangeBegun (withArgs
        (moved { accepted s .probe with
          mem := m
          seq := { (accepted s .probe).seq with presence := 0, loopPort := .port0 } } .port0)
        s.cfg.addrCard .pkt 5 5)) ∧
      ∀ a, State.readByte { s with mem := m } a =
        if a = 0xC0 then s.cfg.cmdProbe
        else if 0xC1 ≤ a ∧ a ≤ 0xC3 then 0x00
        else if a = 0xC4 then s.cfg.probeReq4
        else s.readByte a

/-- BCAST of a text of `ls` bytes builds the header and the text with its terminator in PKT; with an
empty mask it ends at once, otherwise it selects the first port of the mask and begins a send, stale
replies in the FIFO included (R265, R351). With an empty mask, attention that the host asserted stays or
falls by a free value, since R237 and R265 disagree (log 17). An Attn event stands before a Shift event
of the same instant by the model's inference (log 15).
Where the state holds a routine's arguments is the model's choice (log 12). -/
def Obligations.BcastStart : Prop :=
  ∀ (s : State) (ls : Nat), s.busy = false → startCode .bcast s = .noError →
    req s ls = 0x00 → (∀ k < ls, req s k ≠ 0x00) → ls ≤ 60 →
    ∃ m,
      (∀ a, State.readByte { s with mem := m } a =
        if a = 0xC0 then s.cfg.cmdSendId
        else if a = 0xC1 then 0x00
        else if a = 0xC2 then BitVec.ofNat 8 (ls + 1)
        else if 0xC3 ≤ a ∧ a ≤ 0xC3 + ls then req s (a - 0xC3)
        else s.readByte a) ∧
      let u := withArgs { accepted s .bcast with mem := m }
        s.cfg.addrCard .pkt (4 + ls) s.smaxresp.toNat
      let onPort (p : Port) := { u with seq := { u.seq with loopPort := p } }
      (s.sarg.getLsbD 0 = false → s.sarg.getLsbD 1 = false → exec .bcast s =
        .next (ended { attnLeft (onPort .port1) with sresult := 0, sresplen := 0 })) ∧
      (s.sarg.getLsbD 0 = true →
        exec .bcast s = .next (sendBegun packetEnded (moved (onPort .port0) .port0))) ∧
      (s.sarg.getLsbD 0 = false → s.sarg.getLsbD 1 = true →
        exec .bcast s = .next (sendBegun packetEnded (moved (onPort .port1) .port1)))

/-! ### The transceiver and the acknowledge latch -/

/-- TryLoad loads exactly where the transmitter is enabled, the line usable, a byte held and the shifter
idle; the load is recorded, and otherwise nothing changes (R171). -/
def Obligations.LoadOfTheShifter : Prop :=
  ∀ s : State,
    (∀ b, s.xc.txh = some b → s.xc.sh = none → s.xc.txen = true → LineOk s.xc →
      s.tryLoad = { s with
        xc := { s.xc with txh := none, sh := some (b, s.now + s.cfg.byteUs) }
        wire := s.wire ++ [.shift s.now s.xc.port s.xc.attn b] }) ∧
    (s.xc.txh = none ∨ s.xc.sh.isSome = true ∨ s.xc.txen = false ∨ ¬ LineOk s.xc → s.tryLoad = s)

/-- The transceiver phase acts only at the tick the shift completes: the reply enters the FIFO, is
dropped with RXOVR where the FIFO is full, or is discarded with RXEN = 0, and then a held byte is
tried for the shifter (R24, R172). -/
def Obligations.CompletionOfAShift : Prop :=
  ∀ (s : State) (r : Byte),
    let idle (x : Xcvr) : State := { s with xc := { x with sh := none } }
    (∀ b, s.xc.sh = some (b, s.now) →
      (s.xc.rxen = true → s.xc.rxf.length < s.cfg.rxFifoDepth →
        s.transceiverPhase r = (idle { s.xc with rxf := s.xc.rxf ++ [r] }).tryLoad) ∧
      (s.xc.rxen = true → s.cfg.rxFifoDepth ≤ s.xc.rxf.length →
        s.transceiverPhase r = (idle { s.xc with rxovr := true }).tryLoad) ∧
      (s.xc.rxen = false → s.transceiverPhase r = (idle s.xc).tryLoad)) ∧
    ((∀ b, s.xc.sh ≠ some (b, s.now)) → s.transceiverPhase r = s)

/-- A pulse is recorded always, and is latched, in both latches at once, exactly where ACKIE is 1 and
STAT.IRQ is 0; a tick without a pulse changes nothing. Nothing else raises ISTAT.ACK: no other phase
and no instruction of the host; and the interrupt output is ISTAT.ACK (R175). -/
def Obligations.AcknowledgeLatch : Prop :=
  ∀ s : State,
    s.ackPhase false = s ∧
    s.ackPhase true =
      (let u := { s with wire := s.wire ++ [.ack s.now] }
       if s.xc.ackie = true ∧ s.xc.irq = false then
         { u with ack := true, xc := { s.xc with irq := true } }
       else u) ∧
    (∀ r, (s.transceiverPhase r).ack = s.ack) ∧
    (s.sequencerPhase.ack = true → s.ack = true) ∧
    (∀ i t, exec i s = .next t → t.ack = true → s.ack = true) ∧
    s.ackIrq = s.ack

/-- The manual acknowledge clear clears STAT.IRQ and STAT.RXOVR and leaves ISTAT.ACK; after both latches
are clear the next pulse is detected (R176). -/
def Obligations.ManualAcknowledgeClear : Prop :=
  ∀ s : State,
    s.ackClear = { s with xc := { s.xc with irq := false, rxovr := false } } ∧
    (∀ l, s.busy = false → (merged l (ctrlValue s.xc)).testBit 4 = true →
      (merged l (ctrlValue s.xc)).testBit 6 = false → ∃ t, exec (.wrCtrl l) s = .next t ∧
        t.xc.irq = false ∧ t.xc.rxovr = false ∧ t.ack = s.ack) ∧
    (s.xc.ackie = true → ∀ t, exec (.wrIstat (.lo 0)) s.ackClear = .next t → s.busy = false →
      t.ack = false ∧ (t.ackPhase true).ack = true ∧ (t.ackPhase true).xc.irq = true)

/-- The flush empties the FIFO and changes neither the shifter nor RXOVR nor anything else (R204). -/
def Obligations.FlushEmptiesTheFifo : Prop :=
  ∀ s : State, s.flush = { s with xc := { s.xc with rxf := [] } } ∧ s.flush.xc.sh = s.xc.sh ∧
    s.flush.xc.rxovr = s.xc.rxovr

/-! ### The sequencer phase -/

/-- The end of each delay of a packet routine. After T_PRE_US both latches are cleared, attention is
asserted and its rise recorded, and the settle delay begins; after T_SETTLE_US the address byte is
given to XB; after T_TRAIL_US attention is released and its fall recorded; after T_IBD_US the next
request byte is given to XB, or TRAIL entered. Delays of 0 are passed at once. Before its tick a delay
changes nothing (R201, R202, R230, R231, R235, R237). `Underway` is part of the invariant.
Where the state holds a routine's arguments, and XB's byte, is the model's choice (log 12). -/
def Obligations.EndOfADelay : Prop :=
  ∀ (s : State) (t : Tick), s.seq.susp = some (.untilTick t) →
    (t = s.now →
      (s.st = .pre → s.sequencerPhase = sleeps (attended (caught s)) .settle 150) ∧
      (s.st = .settle → Underway s → s.sequencerPhase = exchangeAddressed packetEnded s) ∧
      (s.st = .trail → s.sequencerPhase = released packetEnded s) ∧
      (s.st = .naIbd → Underway s → s.sequencerPhase = sendNext packetEnded s.xc.rxf s)) ∧
    (t ≠ s.now → s.sequencerPhase = s)

/-- The two waits of a byte exchange. While its condition does not hold nothing changes. When TXRDY
holds the byte goes to the transmitter. When a reply is in the FIFO its head is removed: in ADDR it
is dropped and in XFER stored at RESPBUF[n], and the waiter's first check follows at once, a pulse
already latched included; in BYTECMD it is the command's result; in NABYTE it is dropped, after the
address with a flush and then the first request byte, after a request byte with the inter-byte delay
(R202, R203, R209, R230, R235, R350, R351). Delays of 0 are passed at once; in NABYTE `i` = 0 marks the
address byte, which is the model's choice (log 12). The last clause says what a stored byte is read
as. `Underway` is part of the invariant. -/
def Obligations.WaitsOfAByteExchange : Prop :=
  ∀ s : State, s.st = .byteCmd ∨ ((s.st = .addr ∨ s.st = .xfer ∨ s.st = .naByte) ∧ Underway s) →
    (s.seq.susp = some .txReady →
      (s.xc.txh.isSome = true → s.sequencerPhase = s) ∧
      (s.xc.txh = none → s.sequencerPhase = byteGiven packetEnded s)) ∧
    (s.seq.susp = some .rxReady →
      (s.xc.rxf = [] → s.sequencerPhase = s) ∧
      (∀ r rest, s.xc.rxf = r :: rest → s.sequencerPhase =
        replied packetEnded r { s with xc := { s.xc with rxf := rest } })) ∧
    (∀ r a, (stored r s).readByte a = if a = 0x80 + s.seq.n then r else s.readByte a)

/-- What a check of the waiter does, where `left` is the budget after the increment. With budget left
and no pulse latched it polls again after 10 ticks. With budget left and a pulse latched it clears
both latches: WAITACK ends with 1, an exchange whose count has reached its capacity goes to the
trailing delay, and any other gives its next byte, a request byte or the filler 0x00, to XB; after the
address the packet counters start anew and the FIFO is flushed. With no budget left the latches stay:
WAITACK ends with 0 and an exchange goes to the trailing delay, after the address with a count of 0
(R203, R208, R230). Delays of 0 are passed at once. `Underway` is part of the invariant.
Where the state holds a routine's arguments is the model's choice (log 12). -/
def Obligations.WaiterChecks : Prop :=
  ∀ s : State, s.seq.susp = some (.untilTick s.now) →
    s.st = .waitCmd ∨ s.st = .addrAck ∨ s.st = .dataAck →
    let left : Int := s.seq.rem - 10
    let u : State := { s with seq := { s.seq with rem := left } }
    (0 < left → s.ack = false → s.sequencerPhase = sleeps u s.st 10) ∧
    (0 < left → s.ack = true →
      (s.st = .waitCmd → s.sequencerPhase = ended { caught u with sresult := 1 }) ∧
      (s.st = .addrAck → Underway s → s.sequencerPhase = addressAcked packetEnded u) ∧
      (s.st = .dataAck → Underway s → s.sequencerPhase = exchangeNext packetEnded (caught u))) ∧
    (left ≤ 0 →
      (s.st = .waitCmd → s.sequencerPhase = ended { u with sresult := 0 }) ∧
      (s.st = .addrAck → s.sequencerPhase =
        trailed packetEnded { u with seq := { u.seq with n := 0, i := 0, rl := s.seq.rl0 } }) ∧
      (s.st = .dataAck → s.sequencerPhase = trailed packetEnded u))

/-- The end of the post-release delay ends XCHG, XNOACK and POLL: XCHG leaves the count of bytes in
SRESPLEN, XNOACK leaves 0, and POLL leaves the count and the button state, or 0 where the reply is
too short or its marker wrong (R205, R230, R235, R261, R262, R267). -/
def Obligations.EndOfAPacket : Prop :=
  ∀ (s : State) (t : Tick), s.st = .post → s.seq.susp = some (.untilTick t) → t = s.now →
    let n := BitVec.ofNat 8 s.seq.n
    (s.seq.cur = some .xchg → s.sequencerPhase = ended { s with sresplen := n }) ∧
    (s.seq.cur = some .xnoack → s.sequencerPhase = ended { s with sresplen := 0 }) ∧
    (s.seq.cur = some .poll → s.sequencerPhase = ended { s with
      sresplen := n
      sresult :=
        if 4 ≤ s.seq.n ∧ resp s 1 = s.cfg.markPad then
          BitVec.ofNat 16 (65535 - ((resp s 2).toNat + 256 * (resp s 3).toNat))
        else 0 })

/-- The end of PROBE's exchange and of BCAST's send on each port. PROBE leaves the exchange's count in
SRESPLEN and sets the port's bit in the presence mask exactly where five bytes came back with both
markers; on port 0 it then selects port 1, builds its request again and begins the exchange at once;
on port 1 it ends with the mask in SRESULT. BCAST on port 0 selects port 1 and begins its send at
once where the mask has that port, and ends with 0 and 0 where it has not; on port 1 it ends so
(R263, R264, R265). An Attn event stands before a Shift event of the same instant by the model's
inference (log 15). The last clause says what the request built is read as.
Where the state holds a routine's arguments, and XB's byte, is the model's choice (log 12). -/
def Obligations.EndOfProbeAndBcast : Prop :=
  ∀ (s : State) (t : Tick), s.st = .post → s.seq.susp = some (.untilTick t) → t = s.now →
    let present := s.seq.n = 5 ∧ resp s 2 = s.cfg.markC2 ∧ resp s 3 = s.cfg.markC3
    let counted (pm : BitVec 2) : State :=
      { s with
        sresplen := BitVec.ofNat 8 s.seq.n
        seq := { s.seq with presence := pm } }
    let onPort1 : State := { s with seq := { s.seq with loopPort := .port1 } }
    (s.seq.cur = some .probe → s.seq.loopPort = .port0 → s.sequencerPhase =
      probing .port1 (counted (if present then s.seq.presence ||| 0b01#2 else s.seq.presence))) ∧
    (s.seq.cur = some .probe → s.seq.loopPort = .port1 →
      let pm := if present then s.seq.presence ||| 0b10#2 else s.seq.presence
      s.sequencerPhase = ended { counted pm with sresult := BitVec.ofNat 16 pm.toNat }) ∧
    (s.seq.cur = some .bcast → s.seq.loopPort = .port0 →
      (s.seq.mask.getLsbD 1 = true →
        s.sequencerPhase = sendBegun bcastEnded (moved onPort1 .port1)) ∧
      (s.seq.mask.getLsbD 1 = false →
        s.sequencerPhase = ended { onPort1 with sresplen := 0, sresult := 0 })) ∧
    (s.seq.cur = some .bcast → s.seq.loopPort = .port1 →
      s.sequencerPhase = ended { s with sresplen := 0, sresult := 0 }) ∧
    (∀ a, (probing .port1 s).readByte a =
      if a = 0xC0 then s.cfg.cmdProbe
      else if 0xC1 ≤ a ∧ a ≤ 0xC3 then 0x00
      else if a = 0xC4 then s.cfg.probeReq4
      else s.readByte a)

/-- The button state inverts the sixteen wire bits, RESPBUF[2] the low byte and RESPBUF[3] the high
byte of a valid poll; with the source's three examples (R262). -/
def Obligations.ButtonInversion : Prop :=
  (∀ lo hi : Byte,
    buttonState lo hi = (lo.setWidth 16 ||| hi.setWidth 16 <<< 8) ^^^ 0xFFFF ∧
    ∀ k < 16, (buttonState lo hi).getLsbD k =
      !(if k < 8 then lo.getLsbD k else hi.getLsbD (k - 8))) ∧
  (∀ s : State, 4 ≤ s.seq.n → resp s 1 = s.cfg.markPad →
    s.pollResult = buttonState (resp s 2) (resp s 3)) ∧
  buttonState 0xFF 0xFF = 0x0000 ∧ buttonState 0x00 0x00 = 0xFFFF ∧ buttonState 0xFE 0xFF = 0x0001

/-- Where a tick may store: of a running XCHG or POLL, only at RESPBUF positions from its count before to
its count after; of a running XNOACK, BCAST, WAITACK or XBYTE, and of none, nowhere (R208, R209, R230,
R232, R235). -/
def Obligations.TicksOfXchgAndPollStoreAtCountedPositions : Prop :=
  ∀ s : State, s.Inv →
    (s.seq.cur = some .xchg ∨ s.seq.cur = some .poll → ∀ a,
      (∀ k, s.seq.n ≤ k → k < s.tick.seq.n → a ≠ 0x80 + k) → s.tick.readByte a = s.readByte a) ∧
    (s.seq.cur = some .xnoack ∨ s.seq.cur = some .bcast ∨ s.seq.cur = some .waitack
      ∨ s.seq.cur = some .xbyte ∨ s.seq.cur = none → s.tick.mem = s.mem)

/-- What a tick of a running exchange stores: at each RESPBUF position from its count before to its count
after, the bytes that the transceiver phase left in the FIFO, from its head on; and of PROBE, at no
other offset but PKT[0..4], and there its request, exactly when it goes on to the other port (R230,
R232, R263). -/
def Obligations.TicksOfAnExchangeStoreTheReceivedBytes : Prop :=
  ∀ s : State, s.Inv →
    s.seq.cur = some .xchg ∨ s.seq.cur = some .poll ∨ s.seq.cur = some .probe →
    let fifo := (s.advance.dropDev.transceiverPhase s.advance.devInput.rx).xc.rxf
    (∀ k, s.seq.n ≤ k → k < s.tick.seq.n →
      fifo[k - s.seq.n]? = some (s.tick.readByte (0x80 + k))) ∧
    (s.seq.cur = some .probe → ∀ a,
      (∀ k, s.seq.n ≤ k → k < s.tick.seq.n → a ≠ 0x80 + k) →
      s.tick.readByte a =
        if s.tick.seq.loopPort = s.seq.loopPort then s.readByte a
        else if a = 0xC0 then s.cfg.cmdProbe
        else if 0xC1 ≤ a ∧ a ≤ 0xC3 then 0x00
        else if a = 0xC4 then s.cfg.probeReq4
        else s.readByte a)

/-! ### Time -/

/-- A WAITACK with timeout T and no pulse runs for exactly ceil(T/10)·10 ticks, reports 0 and leaves both
latches as they were (R203, R208). -/
def Obligations.WaitWithoutAPulse : Prop :=
  ∀ s t : State, s.busy = false → s.ack = false → exec .waitack s = .next t →
    noPulse (waitTicks s.stimeout.toNat) s →
    let u := ticks (waitTicks s.stimeout.toNat) t
    u.busy = false ∧ u.done = true ∧ u.sresult = 0 ∧ u.ack = false ∧ u.xc.irq = s.xc.irq ∧
      u.now = s.now + waitTicks s.stimeout.toNat ∧
      ∀ j < waitTicks s.stimeout.toNat, (ticks j t).busy = true

/-- A WAITACK whose first pulse comes `p` ticks after its start, no later than its last check, ends at
the first multiple of 10 ticks not before the pulse, reports 1 and leaves both latches clear (R175,
R203, R208). -/
def Obligations.WaitWithAPulse : Prop :=
  ∀ (s t : State) (p : Nat), s.busy = false → s.ack = false → s.xc.ackie = true →
    s.xc.irq = false → exec .waitack s = .next t → 1 ≤ p →
    waitTicks p + 10 ≤ waitTicks s.stimeout.toNat → noPulse (p - 1) s →
    (∃ d, s.dev[p - 1]? = some d ∧ d.ack = true) →
    let u := ticks (waitTicks p) t
    u.busy = false ∧ u.done = true ∧ u.sresult = 1 ∧ u.ack = false ∧ u.xc.irq = false ∧
      ∀ j < waitTicks p, (ticks j t).busy = true

/-- An XCHG with an absent device, from a clean transceiver: it runs for exactly the ticks of R233, shifts
the address alone, asserts and releases attention once, stores nothing and reports 0 bytes (R230,
R232, R233, R237). -/
def Obligations.ExchangeWithAnAbsentDevice : Prop :=
  ∀ s t : State, s.busy = false → startCode .xchg s = .noError → s.cfg.Ok → s.clean →
    exec .xchg s = .next t → noPulse (absentTicks s.cfg) s →
    let u := ticks (absentTicks s.cfg) t
    let ta := s.now + s.cfg.tPreUs + 150
    u.busy = false ∧ u.done = true ∧ u.sresplen = 0 ∧ u.sresult = s.sresult ∧ u.mem = s.mem ∧
      u.xc.attn = false ∧ u.xc.port = s.xc.port ∧
      u.wire = s.wire ++ (if s.xc.attn then [] else [.attn (s.now + s.cfg.tPreUs) s.xc.port true])
        ++ [.shift ta s.xc.port true s.saddr,
          .attn (ta + s.cfg.byteUs + 120 + s.cfg.tTrailUs) s.xc.port false] ∧
      ∀ j < absentTicks s.cfg, (ticks j t).busy = true

/-- An XNOACK of L bytes from a clean transceiver, whatever the devices do: it runs for exactly the ticks
of R236, shifts the address and the L request bytes at their ticks with attention asserted, releases
it, and reports 0 bytes (R235, R236, R237). That attention's rise stands before the address's shift, in
one instant, is the model's inference (log 15). -/
def Obligations.SendTakesAFixedTime : Prop :=
  ∀ s t : State, s.busy = false → startCode .xnoack s = .noError → s.cfg.Ok → s.clean →
    exec .xnoack s = .next t →
    let len := s.sreqlen.toNat
    let u := ticks (sendTicks s.cfg len) t
    let b := s.cfg.byteUs
    u.busy = false ∧ u.done = true ∧ u.sresplen = 0 ∧ u.sresult = s.sresult ∧ u.mem = s.mem ∧
      u.xc.attn = false ∧ u.xc.port = s.xc.port ∧
      driven u.wire = driven s.wire
        ++ (if s.xc.attn then [] else [.attn s.now s.xc.port true])
        ++ [.shift s.now s.xc.port true s.saddr]
        ++ (List.range len).map (fun k =>
            .shift (s.now + b + k * (b + s.cfg.tIbdUs)) s.xc.port true (req s k))
        ++ [.attn (s.now + b + len * (b + s.cfg.tIbdUs) + s.cfg.tTrailUs) s.xc.port false] ∧
      ∀ j < sendTicks s.cfg len, (ticks j t).busy = true

/-- Every command that starts from a state of the invariant ends within its bound, whatever the devices
do; and so does, in some number of ticks, a command already running in a state of the invariant
(R361). -/
def Obligations.EveryCommandEnds : Prop :=
  (∀ (s t : State) (c : Cmd), s.Inv → s.busy = false → startCode c s = .noError →
    exec (commandInstr c) s = .next t → ∃ k ≤ commandBound c s, (ticks k t).busy = false) ∧
  ∀ s : State, s.Inv → ∃ k, (ticks k s).busy = false
end

