-- ==== Sys2Proof/Laws/Flags.lean ====
section
/-! SUPPORT. The numbers that the computed register words and the operand forms stand for. -/

namespace Sys2Proof.Machine

/-! ### Halves and lanes -/

/-- A 16-bit value from its bytes (R61). -/
theorem halfOf_toNat (l h : Byte) : (halfOf l h).toNat = l.toNat + 256 * h.toNat := by
  have hl := l.isLt
  have hh := h.isLt
  simp only [halfOf, BitVec.toNat_or, BitVec.toNat_shiftLeft, BitVec.toNat_setWidth,
    Nat.shiftLeft_eq]
  rw [Nat.mod_eq_of_lt (show h.toNat < 2 ^ 16 by omega), Nat.mod_eq_of_lt (by omega),
    Nat.mod_eq_of_lt (show l.toNat < 2 ^ 16 by omega), ← Nat.shiftLeft_eq,
    ← Nat.shiftLeft_add_eq_or_of_lt (by omega), Nat.shiftLeft_eq]
  omega

theorem loByte_toNat (x : Half) : (loByte x).toNat = x.toNat % 256 := by simp [loByte]

theorem hiByte_toNat (x : Half) : (hiByte x).toNat = x.toNat / 256 := by
  have := x.isLt
  simp only [hiByte, BitVec.toNat_setWidth, BitVec.toNat_ushiftRight, Nat.shiftRight_eq_div_pow]
  omega

/-- What a read of each lane returns (R120). -/
theorem readLane_toNat (l : RLane) (x : Half) :
    (readLane l x).toNat =
      match l with
      | .lo => x.toNat % 256
      | .hi => x.toNat / 256
      | .whole => x.toNat := by
  have := x.isLt
  cases l
  · simp only [readLane, BitVec.toNat_setWidth, loByte_toNat]; omega
  · simp only [readLane, BitVec.toNat_setWidth, hiByte_toNat]; omega
  · rfl

/-- The value a write of each lane makes (R95). -/
theorem merge_toNat (l : WLane) (x : Half) :
    (merge l x).toNat =
      match l with
      | .lo b => b.toNat + 256 * (x.toNat / 256)
      | .hi b => x.toNat % 256 + 256 * b.toNat
      | .whole h => h.toNat := by
  cases l
  · simp only [merge, halfOf_toNat, hiByte_toNat]
  · simp only [merge, halfOf_toNat, loByte_toNat]
  · rfl

/-! ### Register words -/

theorem statWord_toNat (x : Xcvr) :
    (statWord x).toNat = 512 * x.irq.toNat + 8 * x.rxovr.toNat + 4 * x.txIdle.toNat
      + 2 * x.rxRdy.toNat + x.txRdy.toNat := by
  unfold statWord
  cases x.irq <;> cases x.rxovr <;> cases x.txIdle <;> cases x.rxRdy <;> cases x.txRdy <;> decide

theorem ctrlWord_toNat (x : Xcvr) :
    (ctrlWord x).toNat = 8192 * (portBit x.port).toNat + 4096 * x.ackie.toNat + 4 * x.rxen.toNat
      + 2 * x.attn.toNat + x.txen.toNat := by
  unfold ctrlWord
  cases x.port <;> cases x.ackie <;> cases x.rxen <;> cases x.attn <;> cases x.txen <;> decide

theorem modeWord_toNat (x : Xcvr) : (modeWord x).toNat = 4 * x.chlen.toNat + x.mult.toNat := by
  unfold modeWord
  generalize x.chlen = a
  generalize x.mult = b
  revert a b
  decide

theorem istatWord_toNat (b : Bool) : (istatWord b).toNat = 128 * b.toNat := by cases b <;> decide

theorem sstatWord_toNat (s : State) :
    (sstatWord s).toNat = 4096 * (stateBits s.st).toNat + 512 * s.aerr.toNat + 256 * s.werr.toNat
      + 16 * (errBits s.err).toNat + 2 * s.done.toNat + s.busy.toNat := by
  unfold sstatWord
  cases s.st <;> cases s.err <;> cases s.aerr <;> cases s.werr <;> cases s.done <;> cases s.busy
    <;> decide

/-- LineOK (R170). -/
theorem lineOk_iff (x : Xcvr) :
    x.lineOk = true ↔ x.mult ≠ 0 ∧ x.chlen = 3 ∧ x.baud ≠ 0 := by
  simp [Xcvr.lineOk, and_assoc]

/-- Configured (R170). -/
theorem configured_iff (x : Xcvr) :
    x.configured = true ↔ x.lineOk = true ∧ x.txen = true ∧ x.rxen = true := by
  simp [Xcvr.configured, and_assoc]

end Sys2Proof.Machine
end

