-- ==== Sys2Proof/Laws/State.lean ====
section
/-! SUPPORT. One lemma per field per named update of the state, each true by rfl. -/

namespace Sys2Proof.Machine

section

variable (s : State)

/-! ### raiseWerr -/

@[simp] theorem State.raiseWerr_cfg : (s.raiseWerr).cfg = s.cfg := rfl
@[simp] theorem State.raiseWerr_now : (s.raiseWerr).now = s.now := rfl
@[simp] theorem State.raiseWerr_xc : (s.raiseWerr).xc = s.xc := rfl
@[simp] theorem State.raiseWerr_ack : (s.raiseWerr).ack = s.ack := rfl
@[simp] theorem State.raiseWerr_scmd : (s.raiseWerr).scmd = s.scmd := rfl
@[simp] theorem State.raiseWerr_busy : (s.raiseWerr).busy = s.busy := rfl
@[simp] theorem State.raiseWerr_done : (s.raiseWerr).done = s.done := rfl
@[simp] theorem State.raiseWerr_err : (s.raiseWerr).err = s.err := rfl
@[simp] theorem State.raiseWerr_werr : (s.raiseWerr).werr = true := rfl
@[simp] theorem State.raiseWerr_aerr : (s.raiseWerr).aerr = s.aerr := rfl
@[simp] theorem State.raiseWerr_st : (s.raiseWerr).st = s.st := rfl
@[simp] theorem State.raiseWerr_saddr : (s.raiseWerr).saddr = s.saddr := rfl
@[simp] theorem State.raiseWerr_sarg : (s.raiseWerr).sarg = s.sarg := rfl
@[simp] theorem State.raiseWerr_sreqlen : (s.raiseWerr).sreqlen = s.sreqlen := rfl
@[simp] theorem State.raiseWerr_smaxresp : (s.raiseWerr).smaxresp = s.smaxresp := rfl
@[simp] theorem State.raiseWerr_sresplen : (s.raiseWerr).sresplen = s.sresplen := rfl
@[simp] theorem State.raiseWerr_sresult : (s.raiseWerr).sresult = s.sresult := rfl
@[simp] theorem State.raiseWerr_stimeout : (s.raiseWerr).stimeout = s.stimeout := rfl
@[simp] theorem State.raiseWerr_mem : (s.raiseWerr).mem = s.mem := rfl
@[simp] theorem State.raiseWerr_seq : (s.raiseWerr).seq = s.seq := rfl
@[simp] theorem State.raiseWerr_wire : (s.raiseWerr).wire = s.wire := rfl
@[simp] theorem State.raiseWerr_rdata : (s.raiseWerr).rdata = s.rdata := rfl
@[simp] theorem State.raiseWerr_host : (s.raiseWerr).host = s.host := rfl
@[simp] theorem State.raiseWerr_dev : (s.raiseWerr).dev = s.dev := rfl
@[simp] theorem State.raiseWerr_resets : (s.raiseWerr).resets = s.resets := rfl

/-! ### raiseAerr -/

@[simp] theorem State.raiseAerr_cfg : (s.raiseAerr).cfg = s.cfg := rfl
@[simp] theorem State.raiseAerr_now : (s.raiseAerr).now = s.now := rfl
@[simp] theorem State.raiseAerr_xc : (s.raiseAerr).xc = s.xc := rfl
@[simp] theorem State.raiseAerr_ack : (s.raiseAerr).ack = s.ack := rfl
@[simp] theorem State.raiseAerr_scmd : (s.raiseAerr).scmd = s.scmd := rfl
@[simp] theorem State.raiseAerr_busy : (s.raiseAerr).busy = s.busy := rfl
@[simp] theorem State.raiseAerr_done : (s.raiseAerr).done = s.done := rfl
@[simp] theorem State.raiseAerr_err : (s.raiseAerr).err = s.err := rfl
@[simp] theorem State.raiseAerr_werr : (s.raiseAerr).werr = s.werr := rfl
@[simp] theorem State.raiseAerr_aerr : (s.raiseAerr).aerr = true := rfl
@[simp] theorem State.raiseAerr_st : (s.raiseAerr).st = s.st := rfl
@[simp] theorem State.raiseAerr_saddr : (s.raiseAerr).saddr = s.saddr := rfl
@[simp] theorem State.raiseAerr_sarg : (s.raiseAerr).sarg = s.sarg := rfl
@[simp] theorem State.raiseAerr_sreqlen : (s.raiseAerr).sreqlen = s.sreqlen := rfl
@[simp] theorem State.raiseAerr_smaxresp : (s.raiseAerr).smaxresp = s.smaxresp := rfl
@[simp] theorem State.raiseAerr_sresplen : (s.raiseAerr).sresplen = s.sresplen := rfl
@[simp] theorem State.raiseAerr_sresult : (s.raiseAerr).sresult = s.sresult := rfl
@[simp] theorem State.raiseAerr_stimeout : (s.raiseAerr).stimeout = s.stimeout := rfl
@[simp] theorem State.raiseAerr_mem : (s.raiseAerr).mem = s.mem := rfl
@[simp] theorem State.raiseAerr_seq : (s.raiseAerr).seq = s.seq := rfl
@[simp] theorem State.raiseAerr_wire : (s.raiseAerr).wire = s.wire := rfl
@[simp] theorem State.raiseAerr_rdata : (s.raiseAerr).rdata = s.rdata := rfl
@[simp] theorem State.raiseAerr_host : (s.raiseAerr).host = s.host := rfl
@[simp] theorem State.raiseAerr_dev : (s.raiseAerr).dev = s.dev := rfl
@[simp] theorem State.raiseAerr_resets : (s.raiseAerr).resets = s.resets := rfl

/-! ### ret -/

@[simp] theorem State.ret_cfg (x : Half) : (s.ret x).cfg = s.cfg := rfl
@[simp] theorem State.ret_now (x : Half) : (s.ret x).now = s.now := rfl
@[simp] theorem State.ret_xc (x : Half) : (s.ret x).xc = s.xc := rfl
@[simp] theorem State.ret_ack (x : Half) : (s.ret x).ack = s.ack := rfl
@[simp] theorem State.ret_scmd (x : Half) : (s.ret x).scmd = s.scmd := rfl
@[simp] theorem State.ret_busy (x : Half) : (s.ret x).busy = s.busy := rfl
@[simp] theorem State.ret_done (x : Half) : (s.ret x).done = s.done := rfl
@[simp] theorem State.ret_err (x : Half) : (s.ret x).err = s.err := rfl
@[simp] theorem State.ret_werr (x : Half) : (s.ret x).werr = s.werr := rfl
@[simp] theorem State.ret_aerr (x : Half) : (s.ret x).aerr = s.aerr := rfl
@[simp] theorem State.ret_st (x : Half) : (s.ret x).st = s.st := rfl
@[simp] theorem State.ret_saddr (x : Half) : (s.ret x).saddr = s.saddr := rfl
@[simp] theorem State.ret_sarg (x : Half) : (s.ret x).sarg = s.sarg := rfl
@[simp] theorem State.ret_sreqlen (x : Half) : (s.ret x).sreqlen = s.sreqlen := rfl
@[simp] theorem State.ret_smaxresp (x : Half) : (s.ret x).smaxresp = s.smaxresp := rfl
@[simp] theorem State.ret_sresplen (x : Half) : (s.ret x).sresplen = s.sresplen := rfl
@[simp] theorem State.ret_sresult (x : Half) : (s.ret x).sresult = s.sresult := rfl
@[simp] theorem State.ret_stimeout (x : Half) : (s.ret x).stimeout = s.stimeout := rfl
@[simp] theorem State.ret_mem (x : Half) : (s.ret x).mem = s.mem := rfl
@[simp] theorem State.ret_seq (x : Half) : (s.ret x).seq = s.seq := rfl
@[simp] theorem State.ret_wire (x : Half) : (s.ret x).wire = s.wire := rfl
@[simp] theorem State.ret_rdata (x : Half) : (s.ret x).rdata = x := rfl
@[simp] theorem State.ret_host (x : Half) : (s.ret x).host = s.host := rfl
@[simp] theorem State.ret_dev (x : Half) : (s.ret x).dev = s.dev := rfl
@[simp] theorem State.ret_resets (x : Half) : (s.ret x).resets = s.resets := rfl

/-! ### record -/

@[simp] theorem State.record_cfg (e : WireEvent) : (s.record e).cfg = s.cfg := rfl
@[simp] theorem State.record_now (e : WireEvent) : (s.record e).now = s.now := rfl
@[simp] theorem State.record_xc (e : WireEvent) : (s.record e).xc = s.xc := rfl
@[simp] theorem State.record_ack (e : WireEvent) : (s.record e).ack = s.ack := rfl
@[simp] theorem State.record_scmd (e : WireEvent) : (s.record e).scmd = s.scmd := rfl
@[simp] theorem State.record_busy (e : WireEvent) : (s.record e).busy = s.busy := rfl
@[simp] theorem State.record_done (e : WireEvent) : (s.record e).done = s.done := rfl
@[simp] theorem State.record_err (e : WireEvent) : (s.record e).err = s.err := rfl
@[simp] theorem State.record_werr (e : WireEvent) : (s.record e).werr = s.werr := rfl
@[simp] theorem State.record_aerr (e : WireEvent) : (s.record e).aerr = s.aerr := rfl
@[simp] theorem State.record_st (e : WireEvent) : (s.record e).st = s.st := rfl
@[simp] theorem State.record_saddr (e : WireEvent) : (s.record e).saddr = s.saddr := rfl
@[simp] theorem State.record_sarg (e : WireEvent) : (s.record e).sarg = s.sarg := rfl
@[simp] theorem State.record_sreqlen (e : WireEvent) : (s.record e).sreqlen = s.sreqlen := rfl
@[simp] theorem State.record_smaxresp (e : WireEvent) : (s.record e).smaxresp = s.smaxresp := rfl
@[simp] theorem State.record_sresplen (e : WireEvent) : (s.record e).sresplen = s.sresplen := rfl
@[simp] theorem State.record_sresult (e : WireEvent) : (s.record e).sresult = s.sresult := rfl
@[simp] theorem State.record_stimeout (e : WireEvent) : (s.record e).stimeout = s.stimeout := rfl
@[simp] theorem State.record_mem (e : WireEvent) : (s.record e).mem = s.mem := rfl
@[simp] theorem State.record_seq (e : WireEvent) : (s.record e).seq = s.seq := rfl
@[simp] theorem State.record_wire (e : WireEvent) : (s.record e).wire = s.wire ++ [e] := rfl
@[simp] theorem State.record_rdata (e : WireEvent) : (s.record e).rdata = s.rdata := rfl
@[simp] theorem State.record_host (e : WireEvent) : (s.record e).host = s.host := rfl
@[simp] theorem State.record_dev (e : WireEvent) : (s.record e).dev = s.dev := rfl
@[simp] theorem State.record_resets (e : WireEvent) : (s.record e).resets = s.resets := rfl

/-! ### writeByte -/

@[simp] theorem State.writeByte_cfg (a : Nat) (b : Byte) : (s.writeByte a b).cfg = s.cfg := rfl
@[simp] theorem State.writeByte_now (a : Nat) (b : Byte) : (s.writeByte a b).now = s.now := rfl
@[simp] theorem State.writeByte_xc (a : Nat) (b : Byte) : (s.writeByte a b).xc = s.xc := rfl
@[simp] theorem State.writeByte_ack (a : Nat) (b : Byte) : (s.writeByte a b).ack = s.ack := rfl
@[simp] theorem State.writeByte_scmd (a : Nat) (b : Byte) : (s.writeByte a b).scmd = s.scmd := rfl
@[simp] theorem State.writeByte_busy (a : Nat) (b : Byte) : (s.writeByte a b).busy = s.busy := rfl
@[simp] theorem State.writeByte_done (a : Nat) (b : Byte) : (s.writeByte a b).done = s.done := rfl
@[simp] theorem State.writeByte_err (a : Nat) (b : Byte) : (s.writeByte a b).err = s.err := rfl
@[simp] theorem State.writeByte_werr (a : Nat) (b : Byte) : (s.writeByte a b).werr = s.werr := rfl
@[simp] theorem State.writeByte_aerr (a : Nat) (b : Byte) : (s.writeByte a b).aerr = s.aerr := rfl
@[simp] theorem State.writeByte_st (a : Nat) (b : Byte) : (s.writeByte a b).st = s.st := rfl
@[simp] theorem State.writeByte_saddr (a : Nat) (b : Byte) : (s.writeByte a b).saddr = s.saddr := rfl
@[simp] theorem State.writeByte_sarg (a : Nat) (b : Byte) : (s.writeByte a b).sarg = s.sarg := rfl
@[simp] theorem State.writeByte_sreqlen (a : Nat) (b : Byte) : (s.writeByte a b).sreqlen = s.sreqlen := rfl
@[simp] theorem State.writeByte_smaxresp (a : Nat) (b : Byte) : (s.writeByte a b).smaxresp = s.smaxresp := rfl
@[simp] theorem State.writeByte_sresplen (a : Nat) (b : Byte) : (s.writeByte a b).sresplen = s.sresplen := rfl
@[simp] theorem State.writeByte_sresult (a : Nat) (b : Byte) : (s.writeByte a b).sresult = s.sresult := rfl
@[simp] theorem State.writeByte_stimeout (a : Nat) (b : Byte) : (s.writeByte a b).stimeout = s.stimeout := rfl
@[simp] theorem State.writeByte_mem (a : Nat) (b : Byte) : (s.writeByte a b).mem = store s.mem a b := rfl
@[simp] theorem State.writeByte_seq (a : Nat) (b : Byte) : (s.writeByte a b).seq = s.seq := rfl
@[simp] theorem State.writeByte_wire (a : Nat) (b : Byte) : (s.writeByte a b).wire = s.wire := rfl
@[simp] theorem State.writeByte_rdata (a : Nat) (b : Byte) : (s.writeByte a b).rdata = s.rdata := rfl
@[simp] theorem State.writeByte_host (a : Nat) (b : Byte) : (s.writeByte a b).host = s.host := rfl
@[simp] theorem State.writeByte_dev (a : Nat) (b : Byte) : (s.writeByte a b).dev = s.dev := rfl
@[simp] theorem State.writeByte_resets (a : Nat) (b : Byte) : (s.writeByte a b).resets = s.resets := rfl

/-! ### driveAttn -/

@[simp] theorem State.driveAttn_cfg (b : Bool) (p : Port) : (s.driveAttn b p).cfg = s.cfg := rfl
@[simp] theorem State.driveAttn_now (b : Bool) (p : Port) : (s.driveAttn b p).now = s.now := rfl
@[simp] theorem State.driveAttn_xc (b : Bool) (p : Port) : (s.driveAttn b p).xc = { s.xc with attn := b, port := p } := rfl
@[simp] theorem State.driveAttn_ack (b : Bool) (p : Port) : (s.driveAttn b p).ack = s.ack := rfl
@[simp] theorem State.driveAttn_scmd (b : Bool) (p : Port) : (s.driveAttn b p).scmd = s.scmd := rfl
@[simp] theorem State.driveAttn_busy (b : Bool) (p : Port) : (s.driveAttn b p).busy = s.busy := rfl
@[simp] theorem State.driveAttn_done (b : Bool) (p : Port) : (s.driveAttn b p).done = s.done := rfl
@[simp] theorem State.driveAttn_err (b : Bool) (p : Port) : (s.driveAttn b p).err = s.err := rfl
@[simp] theorem State.driveAttn_werr (b : Bool) (p : Port) : (s.driveAttn b p).werr = s.werr := rfl
@[simp] theorem State.driveAttn_aerr (b : Bool) (p : Port) : (s.driveAttn b p).aerr = s.aerr := rfl
@[simp] theorem State.driveAttn_st (b : Bool) (p : Port) : (s.driveAttn b p).st = s.st := rfl
@[simp] theorem State.driveAttn_saddr (b : Bool) (p : Port) : (s.driveAttn b p).saddr = s.saddr := rfl
@[simp] theorem State.driveAttn_sarg (b : Bool) (p : Port) : (s.driveAttn b p).sarg = s.sarg := rfl
@[simp] theorem State.driveAttn_sreqlen (b : Bool) (p : Port) : (s.driveAttn b p).sreqlen = s.sreqlen := rfl
@[simp] theorem State.driveAttn_smaxresp (b : Bool) (p : Port) : (s.driveAttn b p).smaxresp = s.smaxresp := rfl
@[simp] theorem State.driveAttn_sresplen (b : Bool) (p : Port) : (s.driveAttn b p).sresplen = s.sresplen := rfl
@[simp] theorem State.driveAttn_sresult (b : Bool) (p : Port) : (s.driveAttn b p).sresult = s.sresult := rfl
@[simp] theorem State.driveAttn_stimeout (b : Bool) (p : Port) : (s.driveAttn b p).stimeout = s.stimeout := rfl
@[simp] theorem State.driveAttn_mem (b : Bool) (p : Port) : (s.driveAttn b p).mem = s.mem := rfl
@[simp] theorem State.driveAttn_seq (b : Bool) (p : Port) : (s.driveAttn b p).seq = s.seq := rfl
@[simp] theorem State.driveAttn_wire (b : Bool) (p : Port) : (s.driveAttn b p).wire = s.wire ++ attnEvents s.now s.xc.attn s.xc.port b p := rfl
@[simp] theorem State.driveAttn_rdata (b : Bool) (p : Port) : (s.driveAttn b p).rdata = s.rdata := rfl
@[simp] theorem State.driveAttn_host (b : Bool) (p : Port) : (s.driveAttn b p).host = s.host := rfl
@[simp] theorem State.driveAttn_dev (b : Bool) (p : Port) : (s.driveAttn b p).dev = s.dev := rfl
@[simp] theorem State.driveAttn_resets (b : Bool) (p : Port) : (s.driveAttn b p).resets = s.resets := rfl

/-! ### ackClear -/

@[simp] theorem State.ackClear_cfg : (s.ackClear).cfg = s.cfg := rfl
@[simp] theorem State.ackClear_now : (s.ackClear).now = s.now := rfl
@[simp] theorem State.ackClear_xc : (s.ackClear).xc = { s.xc with irq := false, rxovr := false } := rfl
@[simp] theorem State.ackClear_ack : (s.ackClear).ack = s.ack := rfl
@[simp] theorem State.ackClear_scmd : (s.ackClear).scmd = s.scmd := rfl
@[simp] theorem State.ackClear_busy : (s.ackClear).busy = s.busy := rfl
@[simp] theorem State.ackClear_done : (s.ackClear).done = s.done := rfl
@[simp] theorem State.ackClear_err : (s.ackClear).err = s.err := rfl
@[simp] theorem State.ackClear_werr : (s.ackClear).werr = s.werr := rfl
@[simp] theorem State.ackClear_aerr : (s.ackClear).aerr = s.aerr := rfl
@[simp] theorem State.ackClear_st : (s.ackClear).st = s.st := rfl
@[simp] theorem State.ackClear_saddr : (s.ackClear).saddr = s.saddr := rfl
@[simp] theorem State.ackClear_sarg : (s.ackClear).sarg = s.sarg := rfl
@[simp] theorem State.ackClear_sreqlen : (s.ackClear).sreqlen = s.sreqlen := rfl
@[simp] theorem State.ackClear_smaxresp : (s.ackClear).smaxresp = s.smaxresp := rfl
@[simp] theorem State.ackClear_sresplen : (s.ackClear).sresplen = s.sresplen := rfl
@[simp] theorem State.ackClear_sresult : (s.ackClear).sresult = s.sresult := rfl
@[simp] theorem State.ackClear_stimeout : (s.ackClear).stimeout = s.stimeout := rfl
@[simp] theorem State.ackClear_mem : (s.ackClear).mem = s.mem := rfl
@[simp] theorem State.ackClear_seq : (s.ackClear).seq = s.seq := rfl
@[simp] theorem State.ackClear_wire : (s.ackClear).wire = s.wire := rfl
@[simp] theorem State.ackClear_rdata : (s.ackClear).rdata = s.rdata := rfl
@[simp] theorem State.ackClear_host : (s.ackClear).host = s.host := rfl
@[simp] theorem State.ackClear_dev : (s.ackClear).dev = s.dev := rfl
@[simp] theorem State.ackClear_resets : (s.ackClear).resets = s.resets := rfl

/-! ### transceiverReset -/

@[simp] theorem State.transceiverReset_cfg : (s.transceiverReset).cfg = s.cfg := rfl
@[simp] theorem State.transceiverReset_now : (s.transceiverReset).now = s.now := rfl
@[simp] theorem State.transceiverReset_xc : (s.transceiverReset).xc = Xcvr.reset := rfl
@[simp] theorem State.transceiverReset_ack : (s.transceiverReset).ack = s.ack := rfl
@[simp] theorem State.transceiverReset_scmd : (s.transceiverReset).scmd = s.scmd := rfl
@[simp] theorem State.transceiverReset_busy : (s.transceiverReset).busy = s.busy := rfl
@[simp] theorem State.transceiverReset_done : (s.transceiverReset).done = s.done := rfl
@[simp] theorem State.transceiverReset_err : (s.transceiverReset).err = s.err := rfl
@[simp] theorem State.transceiverReset_werr : (s.transceiverReset).werr = s.werr := rfl
@[simp] theorem State.transceiverReset_aerr : (s.transceiverReset).aerr = s.aerr := rfl
@[simp] theorem State.transceiverReset_st : (s.transceiverReset).st = s.st := rfl
@[simp] theorem State.transceiverReset_saddr : (s.transceiverReset).saddr = s.saddr := rfl
@[simp] theorem State.transceiverReset_sarg : (s.transceiverReset).sarg = s.sarg := rfl
@[simp] theorem State.transceiverReset_sreqlen : (s.transceiverReset).sreqlen = s.sreqlen := rfl
@[simp] theorem State.transceiverReset_smaxresp : (s.transceiverReset).smaxresp = s.smaxresp := rfl
@[simp] theorem State.transceiverReset_sresplen : (s.transceiverReset).sresplen = s.sresplen := rfl
@[simp] theorem State.transceiverReset_sresult : (s.transceiverReset).sresult = s.sresult := rfl
@[simp] theorem State.transceiverReset_stimeout : (s.transceiverReset).stimeout = s.stimeout := rfl
@[simp] theorem State.transceiverReset_mem : (s.transceiverReset).mem = s.mem := rfl
@[simp] theorem State.transceiverReset_seq : (s.transceiverReset).seq = s.seq := rfl
@[simp] theorem State.transceiverReset_wire : (s.transceiverReset).wire = s.wire ++ attnEvents s.now s.xc.attn s.xc.port false .port0 := rfl
@[simp] theorem State.transceiverReset_rdata : (s.transceiverReset).rdata = s.rdata := rfl
@[simp] theorem State.transceiverReset_host : (s.transceiverReset).host = s.host := rfl
@[simp] theorem State.transceiverReset_dev : (s.transceiverReset).dev = s.dev := rfl
@[simp] theorem State.transceiverReset_resets : (s.transceiverReset).resets = s.resets := rfl

/-! ### enter -/

@[simp] theorem State.enter_cfg (q : SeqState) : (s.enter q).cfg = s.cfg := rfl
@[simp] theorem State.enter_now (q : SeqState) : (s.enter q).now = s.now := rfl
@[simp] theorem State.enter_xc (q : SeqState) : (s.enter q).xc = s.xc := rfl
@[simp] theorem State.enter_ack (q : SeqState) : (s.enter q).ack = s.ack := rfl
@[simp] theorem State.enter_scmd (q : SeqState) : (s.enter q).scmd = s.scmd := rfl
@[simp] theorem State.enter_busy (q : SeqState) : (s.enter q).busy = s.busy := rfl
@[simp] theorem State.enter_done (q : SeqState) : (s.enter q).done = s.done := rfl
@[simp] theorem State.enter_err (q : SeqState) : (s.enter q).err = s.err := rfl
@[simp] theorem State.enter_werr (q : SeqState) : (s.enter q).werr = s.werr := rfl
@[simp] theorem State.enter_aerr (q : SeqState) : (s.enter q).aerr = s.aerr := rfl
@[simp] theorem State.enter_st (q : SeqState) : (s.enter q).st = q := rfl
@[simp] theorem State.enter_saddr (q : SeqState) : (s.enter q).saddr = s.saddr := rfl
@[simp] theorem State.enter_sarg (q : SeqState) : (s.enter q).sarg = s.sarg := rfl
@[simp] theorem State.enter_sreqlen (q : SeqState) : (s.enter q).sreqlen = s.sreqlen := rfl
@[simp] theorem State.enter_smaxresp (q : SeqState) : (s.enter q).smaxresp = s.smaxresp := rfl
@[simp] theorem State.enter_sresplen (q : SeqState) : (s.enter q).sresplen = s.sresplen := rfl
@[simp] theorem State.enter_sresult (q : SeqState) : (s.enter q).sresult = s.sresult := rfl
@[simp] theorem State.enter_stimeout (q : SeqState) : (s.enter q).stimeout = s.stimeout := rfl
@[simp] theorem State.enter_mem (q : SeqState) : (s.enter q).mem = s.mem := rfl
@[simp] theorem State.enter_seq (q : SeqState) : (s.enter q).seq = s.seq := rfl
@[simp] theorem State.enter_wire (q : SeqState) : (s.enter q).wire = s.wire := rfl
@[simp] theorem State.enter_rdata (q : SeqState) : (s.enter q).rdata = s.rdata := rfl
@[simp] theorem State.enter_host (q : SeqState) : (s.enter q).host = s.host := rfl
@[simp] theorem State.enter_dev (q : SeqState) : (s.enter q).dev = s.dev := rfl
@[simp] theorem State.enter_resets (q : SeqState) : (s.enter q).resets = s.resets := rfl

/-! ### suspend -/

@[simp] theorem State.suspend_cfg (w : Susp) : (s.suspend w).cfg = s.cfg := rfl
@[simp] theorem State.suspend_now (w : Susp) : (s.suspend w).now = s.now := rfl
@[simp] theorem State.suspend_xc (w : Susp) : (s.suspend w).xc = s.xc := rfl
@[simp] theorem State.suspend_ack (w : Susp) : (s.suspend w).ack = s.ack := rfl
@[simp] theorem State.suspend_scmd (w : Susp) : (s.suspend w).scmd = s.scmd := rfl
@[simp] theorem State.suspend_busy (w : Susp) : (s.suspend w).busy = s.busy := rfl
@[simp] theorem State.suspend_done (w : Susp) : (s.suspend w).done = s.done := rfl
@[simp] theorem State.suspend_err (w : Susp) : (s.suspend w).err = s.err := rfl
@[simp] theorem State.suspend_werr (w : Susp) : (s.suspend w).werr = s.werr := rfl
@[simp] theorem State.suspend_aerr (w : Susp) : (s.suspend w).aerr = s.aerr := rfl
@[simp] theorem State.suspend_st (w : Susp) : (s.suspend w).st = s.st := rfl
@[simp] theorem State.suspend_saddr (w : Susp) : (s.suspend w).saddr = s.saddr := rfl
@[simp] theorem State.suspend_sarg (w : Susp) : (s.suspend w).sarg = s.sarg := rfl
@[simp] theorem State.suspend_sreqlen (w : Susp) : (s.suspend w).sreqlen = s.sreqlen := rfl
@[simp] theorem State.suspend_smaxresp (w : Susp) : (s.suspend w).smaxresp = s.smaxresp := rfl
@[simp] theorem State.suspend_sresplen (w : Susp) : (s.suspend w).sresplen = s.sresplen := rfl
@[simp] theorem State.suspend_sresult (w : Susp) : (s.suspend w).sresult = s.sresult := rfl
@[simp] theorem State.suspend_stimeout (w : Susp) : (s.suspend w).stimeout = s.stimeout := rfl
@[simp] theorem State.suspend_mem (w : Susp) : (s.suspend w).mem = s.mem := rfl
@[simp] theorem State.suspend_seq (w : Susp) : (s.suspend w).seq = { s.seq with susp := some w } := rfl
@[simp] theorem State.suspend_wire (w : Susp) : (s.suspend w).wire = s.wire := rfl
@[simp] theorem State.suspend_rdata (w : Susp) : (s.suspend w).rdata = s.rdata := rfl
@[simp] theorem State.suspend_host (w : Susp) : (s.suspend w).host = s.host := rfl
@[simp] theorem State.suspend_dev (w : Susp) : (s.suspend w).dev = s.dev := rfl
@[simp] theorem State.suspend_resets (w : Susp) : (s.suspend w).resets = s.resets := rfl

/-! ### endCommand -/

@[simp] theorem State.endCommand_cfg : (s.endCommand).cfg = s.cfg := rfl
@[simp] theorem State.endCommand_now : (s.endCommand).now = s.now := rfl
@[simp] theorem State.endCommand_xc : (s.endCommand).xc = s.xc := rfl
@[simp] theorem State.endCommand_ack : (s.endCommand).ack = s.ack := rfl
@[simp] theorem State.endCommand_scmd : (s.endCommand).scmd = s.scmd := rfl
@[simp] theorem State.endCommand_busy : (s.endCommand).busy = false := rfl
@[simp] theorem State.endCommand_done : (s.endCommand).done = true := rfl
@[simp] theorem State.endCommand_err : (s.endCommand).err = s.err := rfl
@[simp] theorem State.endCommand_werr : (s.endCommand).werr = s.werr := rfl
@[simp] theorem State.endCommand_aerr : (s.endCommand).aerr = s.aerr := rfl
@[simp] theorem State.endCommand_st : (s.endCommand).st = .idle := rfl
@[simp] theorem State.endCommand_saddr : (s.endCommand).saddr = s.saddr := rfl
@[simp] theorem State.endCommand_sarg : (s.endCommand).sarg = s.sarg := rfl
@[simp] theorem State.endCommand_sreqlen : (s.endCommand).sreqlen = s.sreqlen := rfl
@[simp] theorem State.endCommand_smaxresp : (s.endCommand).smaxresp = s.smaxresp := rfl
@[simp] theorem State.endCommand_sresplen : (s.endCommand).sresplen = s.sresplen := rfl
@[simp] theorem State.endCommand_sresult : (s.endCommand).sresult = s.sresult := rfl
@[simp] theorem State.endCommand_stimeout : (s.endCommand).stimeout = s.stimeout := rfl
@[simp] theorem State.endCommand_mem : (s.endCommand).mem = s.mem := rfl
@[simp] theorem State.endCommand_seq : (s.endCommand).seq = { s.seq with cur := none, susp := none } := rfl
@[simp] theorem State.endCommand_wire : (s.endCommand).wire = s.wire := rfl
@[simp] theorem State.endCommand_rdata : (s.endCommand).rdata = s.rdata := rfl
@[simp] theorem State.endCommand_host : (s.endCommand).host = s.host := rfl
@[simp] theorem State.endCommand_dev : (s.endCommand).dev = s.dev := rfl
@[simp] theorem State.endCommand_resets : (s.endCommand).resets = s.resets := rfl

/-! ### flush -/

@[simp] theorem State.flush_cfg : (s.flush).cfg = s.cfg := rfl
@[simp] theorem State.flush_now : (s.flush).now = s.now := rfl
@[simp] theorem State.flush_xc : (s.flush).xc = { s.xc with rxf := [] } := rfl
@[simp] theorem State.flush_ack : (s.flush).ack = s.ack := rfl
@[simp] theorem State.flush_scmd : (s.flush).scmd = s.scmd := rfl
@[simp] theorem State.flush_busy : (s.flush).busy = s.busy := rfl
@[simp] theorem State.flush_done : (s.flush).done = s.done := rfl
@[simp] theorem State.flush_err : (s.flush).err = s.err := rfl
@[simp] theorem State.flush_werr : (s.flush).werr = s.werr := rfl
@[simp] theorem State.flush_aerr : (s.flush).aerr = s.aerr := rfl
@[simp] theorem State.flush_st : (s.flush).st = s.st := rfl
@[simp] theorem State.flush_saddr : (s.flush).saddr = s.saddr := rfl
@[simp] theorem State.flush_sarg : (s.flush).sarg = s.sarg := rfl
@[simp] theorem State.flush_sreqlen : (s.flush).sreqlen = s.sreqlen := rfl
@[simp] theorem State.flush_smaxresp : (s.flush).smaxresp = s.smaxresp := rfl
@[simp] theorem State.flush_sresplen : (s.flush).sresplen = s.sresplen := rfl
@[simp] theorem State.flush_sresult : (s.flush).sresult = s.sresult := rfl
@[simp] theorem State.flush_stimeout : (s.flush).stimeout = s.stimeout := rfl
@[simp] theorem State.flush_mem : (s.flush).mem = s.mem := rfl
@[simp] theorem State.flush_seq : (s.flush).seq = s.seq := rfl
@[simp] theorem State.flush_wire : (s.flush).wire = s.wire := rfl
@[simp] theorem State.flush_rdata : (s.flush).rdata = s.rdata := rfl
@[simp] theorem State.flush_host : (s.flush).host = s.host := rfl
@[simp] theorem State.flush_dev : (s.flush).dev = s.dev := rfl
@[simp] theorem State.flush_resets : (s.flush).resets = s.resets := rfl

/-! ### clearLatches -/

@[simp] theorem State.clearLatches_cfg : (s.clearLatches).cfg = s.cfg := rfl
@[simp] theorem State.clearLatches_now : (s.clearLatches).now = s.now := rfl
@[simp] theorem State.clearLatches_xc : (s.clearLatches).xc = { s.xc with irq := false } := rfl
@[simp] theorem State.clearLatches_ack : (s.clearLatches).ack = false := rfl
@[simp] theorem State.clearLatches_scmd : (s.clearLatches).scmd = s.scmd := rfl
@[simp] theorem State.clearLatches_busy : (s.clearLatches).busy = s.busy := rfl
@[simp] theorem State.clearLatches_done : (s.clearLatches).done = s.done := rfl
@[simp] theorem State.clearLatches_err : (s.clearLatches).err = s.err := rfl
@[simp] theorem State.clearLatches_werr : (s.clearLatches).werr = s.werr := rfl
@[simp] theorem State.clearLatches_aerr : (s.clearLatches).aerr = s.aerr := rfl
@[simp] theorem State.clearLatches_st : (s.clearLatches).st = s.st := rfl
@[simp] theorem State.clearLatches_saddr : (s.clearLatches).saddr = s.saddr := rfl
@[simp] theorem State.clearLatches_sarg : (s.clearLatches).sarg = s.sarg := rfl
@[simp] theorem State.clearLatches_sreqlen : (s.clearLatches).sreqlen = s.sreqlen := rfl
@[simp] theorem State.clearLatches_smaxresp : (s.clearLatches).smaxresp = s.smaxresp := rfl
@[simp] theorem State.clearLatches_sresplen : (s.clearLatches).sresplen = s.sresplen := rfl
@[simp] theorem State.clearLatches_sresult : (s.clearLatches).sresult = s.sresult := rfl
@[simp] theorem State.clearLatches_stimeout : (s.clearLatches).stimeout = s.stimeout := rfl
@[simp] theorem State.clearLatches_mem : (s.clearLatches).mem = s.mem := rfl
@[simp] theorem State.clearLatches_seq : (s.clearLatches).seq = s.seq := rfl
@[simp] theorem State.clearLatches_wire : (s.clearLatches).wire = s.wire := rfl
@[simp] theorem State.clearLatches_rdata : (s.clearLatches).rdata = s.rdata := rfl
@[simp] theorem State.clearLatches_host : (s.clearLatches).host = s.host := rfl
@[simp] theorem State.clearLatches_dev : (s.clearLatches).dev = s.dev := rfl
@[simp] theorem State.clearLatches_resets : (s.clearLatches).resets = s.resets := rfl

/-! ### routineArgs -/

@[simp] theorem State.routineArgs_cfg (a : Byte) (src : ReqSrc) (rl0 cap : Nat) : (s.routineArgs a src rl0 cap).cfg = s.cfg := rfl
@[simp] theorem State.routineArgs_now (a : Byte) (src : ReqSrc) (rl0 cap : Nat) : (s.routineArgs a src rl0 cap).now = s.now := rfl
@[simp] theorem State.routineArgs_xc (a : Byte) (src : ReqSrc) (rl0 cap : Nat) : (s.routineArgs a src rl0 cap).xc = s.xc := rfl
@[simp] theorem State.routineArgs_ack (a : Byte) (src : ReqSrc) (rl0 cap : Nat) : (s.routineArgs a src rl0 cap).ack = s.ack := rfl
@[simp] theorem State.routineArgs_scmd (a : Byte) (src : ReqSrc) (rl0 cap : Nat) : (s.routineArgs a src rl0 cap).scmd = s.scmd := rfl
@[simp] theorem State.routineArgs_busy (a : Byte) (src : ReqSrc) (rl0 cap : Nat) : (s.routineArgs a src rl0 cap).busy = s.busy := rfl
@[simp] theorem State.routineArgs_done (a : Byte) (src : ReqSrc) (rl0 cap : Nat) : (s.routineArgs a src rl0 cap).done = s.done := rfl
@[simp] theorem State.routineArgs_err (a : Byte) (src : ReqSrc) (rl0 cap : Nat) : (s.routineArgs a src rl0 cap).err = s.err := rfl
@[simp] theorem State.routineArgs_werr (a : Byte) (src : ReqSrc) (rl0 cap : Nat) : (s.routineArgs a src rl0 cap).werr = s.werr := rfl
@[simp] theorem State.routineArgs_aerr (a : Byte) (src : ReqSrc) (rl0 cap : Nat) : (s.routineArgs a src rl0 cap).aerr = s.aerr := rfl
@[simp] theorem State.routineArgs_st (a : Byte) (src : ReqSrc) (rl0 cap : Nat) : (s.routineArgs a src rl0 cap).st = s.st := rfl
@[simp] theorem State.routineArgs_saddr (a : Byte) (src : ReqSrc) (rl0 cap : Nat) : (s.routineArgs a src rl0 cap).saddr = s.saddr := rfl
@[simp] theorem State.routineArgs_sarg (a : Byte) (src : ReqSrc) (rl0 cap : Nat) : (s.routineArgs a src rl0 cap).sarg = s.sarg := rfl
@[simp] theorem State.routineArgs_sreqlen (a : Byte) (src : ReqSrc) (rl0 cap : Nat) : (s.routineArgs a src rl0 cap).sreqlen = s.sreqlen := rfl
@[simp] theorem State.routineArgs_smaxresp (a : Byte) (src : ReqSrc) (rl0 cap : Nat) : (s.routineArgs a src rl0 cap).smaxresp = s.smaxresp := rfl
@[simp] theorem State.routineArgs_sresplen (a : Byte) (src : ReqSrc) (rl0 cap : Nat) : (s.routineArgs a src rl0 cap).sresplen = s.sresplen := rfl
@[simp] theorem State.routineArgs_sresult (a : Byte) (src : ReqSrc) (rl0 cap : Nat) : (s.routineArgs a src rl0 cap).sresult = s.sresult := rfl
@[simp] theorem State.routineArgs_stimeout (a : Byte) (src : ReqSrc) (rl0 cap : Nat) : (s.routineArgs a src rl0 cap).stimeout = s.stimeout := rfl
@[simp] theorem State.routineArgs_mem (a : Byte) (src : ReqSrc) (rl0 cap : Nat) : (s.routineArgs a src rl0 cap).mem = s.mem := rfl
@[simp] theorem State.routineArgs_seq (a : Byte) (src : ReqSrc) (rl0 cap : Nat) : (s.routineArgs a src rl0 cap).seq = { s.seq with addr := a, src := src, rl0 := rl0, cap := cap } := rfl
@[simp] theorem State.routineArgs_wire (a : Byte) (src : ReqSrc) (rl0 cap : Nat) : (s.routineArgs a src rl0 cap).wire = s.wire := rfl
@[simp] theorem State.routineArgs_rdata (a : Byte) (src : ReqSrc) (rl0 cap : Nat) : (s.routineArgs a src rl0 cap).rdata = s.rdata := rfl
@[simp] theorem State.routineArgs_host (a : Byte) (src : ReqSrc) (rl0 cap : Nat) : (s.routineArgs a src rl0 cap).host = s.host := rfl
@[simp] theorem State.routineArgs_dev (a : Byte) (src : ReqSrc) (rl0 cap : Nat) : (s.routineArgs a src rl0 cap).dev = s.dev := rfl
@[simp] theorem State.routineArgs_resets (a : Byte) (src : ReqSrc) (rl0 cap : Nat) : (s.routineArgs a src rl0 cap).resets = s.resets := rfl

/-! ### reject -/

@[simp] theorem State.reject_cfg (e : ErrCode) : (s.reject e).cfg = s.cfg := rfl
@[simp] theorem State.reject_now (e : ErrCode) : (s.reject e).now = s.now := rfl
@[simp] theorem State.reject_xc (e : ErrCode) : (s.reject e).xc = s.xc := rfl
@[simp] theorem State.reject_ack (e : ErrCode) : (s.reject e).ack = s.ack := rfl
@[simp] theorem State.reject_scmd (e : ErrCode) : (s.reject e).scmd = s.scmd := rfl
@[simp] theorem State.reject_busy (e : ErrCode) : (s.reject e).busy = s.busy := rfl
@[simp] theorem State.reject_done (e : ErrCode) : (s.reject e).done = true := rfl
@[simp] theorem State.reject_err (e : ErrCode) : (s.reject e).err = e := rfl
@[simp] theorem State.reject_werr (e : ErrCode) : (s.reject e).werr = s.werr := rfl
@[simp] theorem State.reject_aerr (e : ErrCode) : (s.reject e).aerr = s.aerr := rfl
@[simp] theorem State.reject_st (e : ErrCode) : (s.reject e).st = s.st := rfl
@[simp] theorem State.reject_saddr (e : ErrCode) : (s.reject e).saddr = s.saddr := rfl
@[simp] theorem State.reject_sarg (e : ErrCode) : (s.reject e).sarg = s.sarg := rfl
@[simp] theorem State.reject_sreqlen (e : ErrCode) : (s.reject e).sreqlen = s.sreqlen := rfl
@[simp] theorem State.reject_smaxresp (e : ErrCode) : (s.reject e).smaxresp = s.smaxresp := rfl
@[simp] theorem State.reject_sresplen (e : ErrCode) : (s.reject e).sresplen = s.sresplen := rfl
@[simp] theorem State.reject_sresult (e : ErrCode) : (s.reject e).sresult = s.sresult := rfl
@[simp] theorem State.reject_stimeout (e : ErrCode) : (s.reject e).stimeout = s.stimeout := rfl
@[simp] theorem State.reject_mem (e : ErrCode) : (s.reject e).mem = s.mem := rfl
@[simp] theorem State.reject_seq (e : ErrCode) : (s.reject e).seq = s.seq := rfl
@[simp] theorem State.reject_wire (e : ErrCode) : (s.reject e).wire = s.wire := rfl
@[simp] theorem State.reject_rdata (e : ErrCode) : (s.reject e).rdata = s.rdata := rfl
@[simp] theorem State.reject_host (e : ErrCode) : (s.reject e).host = s.host := rfl
@[simp] theorem State.reject_dev (e : ErrCode) : (s.reject e).dev = s.dev := rfl
@[simp] theorem State.reject_resets (e : ErrCode) : (s.reject e).resets = s.resets := rfl

/-! ### advance -/

@[simp] theorem State.advance_cfg : (s.advance).cfg = s.cfg := rfl
@[simp] theorem State.advance_now : (s.advance).now = s.now + 1 := rfl
@[simp] theorem State.advance_xc : (s.advance).xc = s.xc := rfl
@[simp] theorem State.advance_ack : (s.advance).ack = s.ack := rfl
@[simp] theorem State.advance_scmd : (s.advance).scmd = s.scmd := rfl
@[simp] theorem State.advance_busy : (s.advance).busy = s.busy := rfl
@[simp] theorem State.advance_done : (s.advance).done = s.done := rfl
@[simp] theorem State.advance_err : (s.advance).err = s.err := rfl
@[simp] theorem State.advance_werr : (s.advance).werr = s.werr := rfl
@[simp] theorem State.advance_aerr : (s.advance).aerr = s.aerr := rfl
@[simp] theorem State.advance_st : (s.advance).st = s.st := rfl
@[simp] theorem State.advance_saddr : (s.advance).saddr = s.saddr := rfl
@[simp] theorem State.advance_sarg : (s.advance).sarg = s.sarg := rfl
@[simp] theorem State.advance_sreqlen : (s.advance).sreqlen = s.sreqlen := rfl
@[simp] theorem State.advance_smaxresp : (s.advance).smaxresp = s.smaxresp := rfl
@[simp] theorem State.advance_sresplen : (s.advance).sresplen = s.sresplen := rfl
@[simp] theorem State.advance_sresult : (s.advance).sresult = s.sresult := rfl
@[simp] theorem State.advance_stimeout : (s.advance).stimeout = s.stimeout := rfl
@[simp] theorem State.advance_mem : (s.advance).mem = s.mem := rfl
@[simp] theorem State.advance_seq : (s.advance).seq = s.seq := rfl
@[simp] theorem State.advance_wire : (s.advance).wire = s.wire := rfl
@[simp] theorem State.advance_rdata : (s.advance).rdata = s.rdata := rfl
@[simp] theorem State.advance_host : (s.advance).host = s.host := rfl
@[simp] theorem State.advance_dev : (s.advance).dev = s.dev := rfl
@[simp] theorem State.advance_resets : (s.advance).resets = s.resets := rfl

/-! ### dropDev -/

@[simp] theorem State.dropDev_cfg : (s.dropDev).cfg = s.cfg := rfl
@[simp] theorem State.dropDev_now : (s.dropDev).now = s.now := rfl
@[simp] theorem State.dropDev_xc : (s.dropDev).xc = s.xc := rfl
@[simp] theorem State.dropDev_ack : (s.dropDev).ack = s.ack := rfl
@[simp] theorem State.dropDev_scmd : (s.dropDev).scmd = s.scmd := rfl
@[simp] theorem State.dropDev_busy : (s.dropDev).busy = s.busy := rfl
@[simp] theorem State.dropDev_done : (s.dropDev).done = s.done := rfl
@[simp] theorem State.dropDev_err : (s.dropDev).err = s.err := rfl
@[simp] theorem State.dropDev_werr : (s.dropDev).werr = s.werr := rfl
@[simp] theorem State.dropDev_aerr : (s.dropDev).aerr = s.aerr := rfl
@[simp] theorem State.dropDev_st : (s.dropDev).st = s.st := rfl
@[simp] theorem State.dropDev_saddr : (s.dropDev).saddr = s.saddr := rfl
@[simp] theorem State.dropDev_sarg : (s.dropDev).sarg = s.sarg := rfl
@[simp] theorem State.dropDev_sreqlen : (s.dropDev).sreqlen = s.sreqlen := rfl
@[simp] theorem State.dropDev_smaxresp : (s.dropDev).smaxresp = s.smaxresp := rfl
@[simp] theorem State.dropDev_sresplen : (s.dropDev).sresplen = s.sresplen := rfl
@[simp] theorem State.dropDev_sresult : (s.dropDev).sresult = s.sresult := rfl
@[simp] theorem State.dropDev_stimeout : (s.dropDev).stimeout = s.stimeout := rfl
@[simp] theorem State.dropDev_mem : (s.dropDev).mem = s.mem := rfl
@[simp] theorem State.dropDev_seq : (s.dropDev).seq = s.seq := rfl
@[simp] theorem State.dropDev_wire : (s.dropDev).wire = s.wire := rfl
@[simp] theorem State.dropDev_rdata : (s.dropDev).rdata = s.rdata := rfl
@[simp] theorem State.dropDev_host : (s.dropDev).host = s.host := rfl
@[simp] theorem State.dropDev_dev : (s.dropDev).dev = s.dev.tail := rfl
@[simp] theorem State.dropDev_resets : (s.dropDev).resets = s.resets := rfl

end

end Sys2Proof.Machine
end

