-- ==== Sys2Proof/Laws/Memory.lean ====
section
/-! SUPPORT. Reading after writing a buffer byte, and the canonical form of the memory list, which every
memory operation keeps. -/

namespace Sys2Proof.Machine

/-! ### Read after write -/

theorem lookup_store_same (m : Memory) (a : Nat) (b : Byte) : lookup (store m a b) a = some b := by
  induction m with
  | nil => simp [store, lookup]
  | cons c m ih =>
    obtain ⟨a', b'⟩ := c
    unfold store
    split_ifs with h1 h2
    · simp [lookup]
    · simp [lookup]
    · simp [lookup, Ne.symm h2, ih]

theorem lookup_store_other (m : Memory) {a x : Nat} (b : Byte) (h : x ≠ a) :
    lookup (store m a b) x = lookup m x := by
  induction m with
  | nil => simp [store, lookup, h.symm]
  | cons c m ih =>
    obtain ⟨a', b'⟩ := c
    unfold store
    split_ifs with h1 h2
    · simp [lookup, h.symm]
    · subst h2; simp [lookup, h.symm]
    · simp [lookup, ih]

/-- What a read of one byte gives after a write of one byte. -/
theorem readByte_writeByte (s : State) (a x : Nat) (b : Byte) :
    (s.writeByte a b).readByte x = if x = a then b else s.readByte x := by
  unfold State.readByte State.writeByte
  split_ifs with h
  · subst h; simp [lookup_store_same]
  · simp [lookup_store_other _ _ h]

@[simp] theorem readByte_writeByte_same (s : State) (a : Nat) (b : Byte) :
    (s.writeByte a b).readByte a = b := by simp [readByte_writeByte]

theorem readByte_writeByte_other (s : State) {a x : Nat} (b : Byte) (h : x ≠ a) :
    (s.writeByte a b).readByte x = s.readByte x := by simp [readByte_writeByte, h]

/-- A byte's value depends on the memory list and on the count of block resets alone. -/
theorem readByte_congr {s t : State} (hm : t.mem = s.mem) (hr : t.resets = s.resets) (a : Nat) :
    t.readByte a = s.readByte a := by unfold State.readByte; rw [hm, hr]

/-! ### The canonical form -/

theorem wfFrom_mono {lo lo' : Nat} (h : lo' ≤ lo) {m : Memory} (hm : wfFrom lo m = true) :
    wfFrom lo' m = true := by
  cases m with
  | nil => rfl
  | cons c m =>
    obtain ⟨a, b⟩ := c
    simp only [wfFrom, Bool.and_eq_true, decide_eq_true_eq] at hm ⊢
    exact ⟨⟨h.trans hm.1.1, hm.1.2⟩, hm.2⟩

theorem wfFrom_store {lo : Nat} {m : Memory} (hm : wfFrom lo m = true) {a : Nat} (b : Byte)
    (hlo : lo ≤ a) (hhi : a < 0x100) : wfFrom lo (store m a b) = true := by
  induction m generalizing lo with
  | nil => simp [store, wfFrom, hlo, hhi]
  | cons c m ih =>
    obtain ⟨a', b'⟩ := c
    simp only [wfFrom, Bool.and_eq_true, decide_eq_true_eq] at hm
    obtain ⟨⟨h1, h2⟩, h3⟩ := hm
    unfold store
    split_ifs with hlt heq
    · simp only [wfFrom, Bool.and_eq_true, decide_eq_true_eq]
      exact ⟨⟨hlo, hhi⟩, ⟨by omega, h2⟩, h3⟩
    · subst heq
      simp only [wfFrom, Bool.and_eq_true, decide_eq_true_eq]
      exact ⟨⟨hlo, hhi⟩, h3⟩
    · simp only [wfFrom, Bool.and_eq_true, decide_eq_true_eq]
      exact ⟨⟨h1, h2⟩, ih h3 (by omega)⟩

/-- A write at an offset of the buffers keeps the canonical form. -/
theorem writeByte_wf {s : State} (hs : s.mem.wf = true) {a : Nat} (b : Byte) (hlo : 0x40 ≤ a)
    (hhi : a < 0x100) : (s.writeByte a b).mem.wf = true := wfFrom_store hs b hlo hhi

theorem reqbufAt_range (k : Nat) : 0x40 ≤ reqbufAt k ∧ reqbufAt k < 0x80 := by
  unfold reqbufAt; omega

theorem respbufAt_range (k : Nat) : 0x80 ≤ respbufAt k ∧ respbufAt k < 0xC0 := by
  unfold respbufAt; omega

theorem pktAt_range (k : Nat) : 0xC0 ≤ pktAt k ∧ pktAt k < 0x100 := by
  unfold pktAt; omega

/-! ### Writes of PKT -/

/-- A write of PKT changes nothing but the memory list. -/
theorem writePkt_eq (s : State) (k : Nat) (bytes : List Byte) :
    s.writePkt k bytes = { s with mem := (s.writePkt k bytes).mem } := by
  induction bytes generalizing s k with
  | nil => rfl
  | cons b bs ih =>
    rw [State.writePkt, ih]
    rfl

/-- A write of PKT keeps the canonical form. -/
theorem writePkt_wf {s : State} (hs : s.mem.wf = true) (k : Nat) (bytes : List Byte) :
    (s.writePkt k bytes).mem.wf = true := by
  induction bytes generalizing s k with
  | nil => exact hs
  | cons b bs ih =>
    exact ih (writeByte_wf hs b (by have := pktAt_range k; omega) (pktAt_range k).2) _

/-- A write of PKT leaves every byte outside PKT. -/
theorem readByte_writePkt_other (s : State) (k : Nat) (bytes : List Byte) {a : Nat} (ha : a < 0xC0) :
    (s.writePkt k bytes).readByte a = s.readByte a := by
  induction bytes generalizing s k with
  | nil => rfl
  | cons b bs ih =>
    rw [State.writePkt, ih, readByte_writeByte_other]
    have := pktAt_range k
    omega

/-- A host write of a buffer keeps the canonical form. -/
theorem bufferWrite_wf {s : State} (hs : s.mem.wf = true) {bufAt : Nat → Nat}
    (h : ∀ k, 0x40 ≤ bufAt k ∧ bufAt k < 0x100) (d : WData) (k : BitVec 6) :
    (s.bufferWrite bufAt d k).mem.wf = true := by
  cases d with
  | w8 b => exact writeByte_wf hs b (h _).1 (h _).2
  | w16 v => exact writeByte_wf (writeByte_wf hs _ (h _).1 (h _).2) _ (h _).1 (h _).2

/-- A host write of a buffer leaves every byte it does not store to. -/
theorem readByte_bufferWrite_other (s : State) (bufAt : Nat → Nat) (d : WData) (k : BitVec 6) {a : Nat}
    (h0 : a ≠ bufAt k.toNat) (h1 : d.width = .w16 → a ≠ bufAt (k.toNat + 1)) :
    (s.bufferWrite bufAt d k).readByte a = s.readByte a := by
  cases d with
  | w8 b => exact readByte_writeByte_other s b h0
  | w16 v =>
    unfold State.bufferWrite
    rw [readByte_writeByte_other _ _ (h1 rfl), readByte_writeByte_other _ _ h0]

theorem reset_mem_wf : State.reset.mem.wf = true := rfl

end Sys2Proof.Machine
end

