-- ==== Sys2Proof/Laws/Ops.lean ====
section
/-! SUPPORT. For each shared operation of the transceiver, the latch and the host port, what it can do. -/

namespace Sys2Proof.Machine

/-! ### The transceiver -/

/-- Everything TryLoad can do: nothing, or one load (R171). -/
theorem tryLoad_cases (s : State) :
    (s.tryLoad = s ∧
      (s.xc.txh = none ∨ s.xc.sh.isSome = true ∨ (s.xc.txen && s.xc.lineOk) = false)) ∨
    (∃ b, s.xc.txh = some b ∧ s.xc.sh = none ∧ (s.xc.txen && s.xc.lineOk) = true ∧
      s.tryLoad = { s with
        xc := { s.xc with txh := none, sh := some (b, s.now + s.cfg.byteUs) }
        wire := s.wire ++ [.shift s.now s.xc.port s.xc.attn b] }) := by
  unfold State.tryLoad
  split
  · rename_i b h1 h2
    split_ifs with h
    · exact .inr ⟨b, h1, h2, h, rfl⟩
    · exact .inl ⟨rfl, .inr (.inr (by simpa using h))⟩
  · rename_i hx
    refine .inl ⟨rfl, ?_⟩
    cases htx : s.xc.txh with
    | none => exact .inl rfl
    | some b =>
      cases hsh : s.xc.sh with
      | none => exact absurd hsh (hx b htx)
      | some p => exact .inr (.inl rfl)

/-- Everything the arrival of a byte can do (R172). -/
theorem receive_cases (s : State) (rx : Byte) :
    (s.xc.rxen = false ∧ s.receive rx = s) ∨
    (s.xc.rxen = true ∧ s.xc.rxf.length < s.cfg.rxFifoDepth ∧
      s.receive rx = { s with xc := { s.xc with rxf := s.xc.rxf ++ [rx] } }) ∨
    (s.xc.rxen = true ∧ s.cfg.rxFifoDepth ≤ s.xc.rxf.length ∧
      s.receive rx = { s with xc := { s.xc with rxovr := true } }) := by
  unfold State.receive
  split_ifs with h1 h2
  · exact .inr (.inl ⟨h1, h2, rfl⟩)
  · exact .inr (.inr ⟨h1, by omega, rfl⟩)
  · exact .inl ⟨by simpa using h1, rfl⟩

/-- Everything the transceiver phase can do (R24, R172). -/
theorem transceiverPhase_cases (s : State) (rx : Byte) :
    (s.transceiverPhase rx = s ∧ ∀ b, s.xc.sh ≠ some (b, s.now)) ∨
    (∃ b, s.xc.sh = some (b, s.now) ∧ s.transceiverPhase rx = s.complete rx) := by
  unfold State.transceiverPhase
  split
  · rename_i b t h
    split_ifs with ht
    · exact .inr ⟨b, by rw [h, ht], rfl⟩
    · refine .inl ⟨rfl, fun b' hb => ht ?_⟩
      rw [h] at hb
      simp only [Option.some.injEq, Prod.mk.injEq] at hb
      exact hb.2
  · rename_i h
    exact .inl ⟨rfl, by simp [h]⟩

/-- Everything the acknowledge phase can do (R175). -/
theorem ackPhase_cases (s : State) (pulse : Bool) :
    (pulse = false ∧ s.ackPhase pulse = s) ∨
    (pulse = true ∧ (s.xc.ackie && !s.xc.irq) = false ∧ s.ackPhase pulse = s.record (.ack s.now)) ∨
    (pulse = true ∧ (s.xc.ackie && !s.xc.irq) = true ∧
      s.ackPhase pulse =
        { s.record (.ack s.now) with xc := { s.xc with irq := true }, ack := true }) := by
  cases pulse with
  | false => exact .inl ⟨rfl, rfl⟩
  | true =>
    cases hc : (s.xc.ackie && !s.xc.irq) with
    | false => exact .inr (.inl ⟨rfl, rfl, by simp [State.ackPhase, hc]⟩)
    | true => exact .inr (.inr ⟨rfl, rfl, by simp [State.ackPhase, hc]⟩)

/-! ### The port multiplexer -/

/-- A write that leaves CTRL.ATTN and CTRL.PORT records nothing (R26). -/
@[simp] theorem attnEvents_same (now : Tick) (b : Bool) (p : Port) : attnEvents now b p b p = [] := by
  cases b <;> cases p <;> rfl

@[simp] theorem driveAttn_same (s : State) : s.driveAttn s.xc.attn s.xc.port = s := by
  simp [State.driveAttn]

/-- Asserting attention on the selected port records its rise and nothing else (R230). -/
theorem attnEvents_assert (now : Tick) (p : Port) :
    attnEvents now false p true p = [.attn now p true] := by cases p <;> rfl

/-- Releasing attention on the selected port records its fall and nothing else (R230). -/
theorem attnEvents_release (now : Tick) (p : Port) :
    attnEvents now true p false p = [.attn now p false] := by cases p <;> rfl

/-- Moving asserted attention to the other port records the falling line first (R174). -/
theorem attnEvents_move (now : Tick) {p q : Port} (h : p ≠ q) :
    attnEvents now true p true q = [.attn now p false, .attn now q true] := by
  cases p <;> cases q <;> first | exact absurd rfl h | rfl

/-! ### The host port -/

/-- A write that the busy filter guards: while BUSY only WERR changes (R121). -/
theorem wrote_next (s s' t : State) :
    s.wrote s' = .next t ↔ (s.busy = true ∧ t = s.raiseWerr) ∨ (s.busy = false ∧ t = s') := by
  unfold State.wrote State.whenIdle
  cases s.busy <;> simp [eq_comm]

/-- A guarded write always completes. -/
theorem wrote_completes (s s' : State) : ∃ t, s.wrote s' = .next t := by
  unfold State.wrote State.whenIdle
  cases s.busy
  · exact ⟨s', rfl⟩
  · exact ⟨s.raiseWerr, rfl⟩

theorem wrote_idle {s : State} (h : s.busy = false) (s' : State) : s.wrote s' = .next s' := by
  simp [State.wrote, State.whenIdle, h]

theorem wrote_busy {s : State} (h : s.busy = true) (s' : State) :
    s.wrote s' = .next s.raiseWerr := by simp [State.wrote, State.whenIdle, h]

/-- The two parts of a 16-bit value put together are the value (R61). -/
@[simp] theorem halfOf_lo_hi (h : Half) : halfOf (loByte h) (hiByte h) = h := by
  apply BitVec.eq_of_getLsbD_eq
  intro i hi
  simp only [halfOf, loByte, hiByte, BitVec.getLsbD_or, BitVec.getLsbD_shiftLeft,
    BitVec.getLsbD_setWidth, BitVec.getLsbD_ushiftRight]
  by_cases h8 : i < 8
  · simp [h8, hi]
  · have e : 8 + (i - 8) = i := by omega
    simp [h8, hi, e, show i - 8 < 16 by omega, show i - 8 < 8 by omega]

@[simp] theorem loByte_halfOf (l h : Byte) : loByte (halfOf l h) = l := by
  apply BitVec.eq_of_getLsbD_eq
  intro i hi
  simp [halfOf, loByte, hi]

@[simp] theorem hiByte_halfOf (l h : Byte) : hiByte (halfOf l h) = h := by
  apply BitVec.eq_of_getLsbD_eq
  intro i hi
  simp [halfOf, hiByte, hi, show 8 + i < 16 by omega]

/-! ### The block reset -/

/-- What the block reset leaves of the state before it (R340, R341). -/
theorem blockReset_frame (s : State) :
    s.blockReset.cfg = s.cfg ∧ s.blockReset.now = s.now ∧ s.blockReset.rdata = s.rdata ∧
      s.blockReset.host = s.host ∧ s.blockReset.dev = s.dev ∧
      s.blockReset.resets = s.resets + 1 ∧
      s.blockReset.wire = s.wire ++ attnEvents s.now s.xc.attn s.xc.port false .port0 :=
  ⟨rfl, rfl, rfl, rfl, rfl, rfl, rfl⟩

/-! ### Parameters -/

theorem legal_ok (p : Params) : p.legal.Ok := by
  refine ⟨le_max_left .., le_max_left .., le_max_left .., ?_⟩
  simp only [Params.legal]
  split_ifs with h
  · generalize p.addrPad = a
    revert a
    decide
  · exact h

/-- Parameters that meet the constraints of R7 are not changed by `legal`. -/
theorem legal_of_ok {p : Params} (h : p.Ok) : p.legal = p := by
  obtain ⟨h1, h2, h3, h4⟩ := h
  simp [Params.legal, h1, h2, h3, h4]

end Sys2Proof.Machine
end

