-- ==== Sys2Proof/Laws/PerInstr.lean ====
section
/-! SUPPORT. Statements about every instruction as syntax, made per instruction. -/

namespace Sys2Proof.Laws

/-! ### The size of a line -/

/-- What holds of every line the encoder writes: one byte is a command, and the length of any other is
the one its W and S bits call for (R90, R91; the layout is the model's, log 2). -/
def lineShape (bytes : List Byte) : Bool :=
  match bytes with
  | [_] => true
  | _ :: top :: data =>
    top.toNat < 4 && data.length == (if top.getLsbD 1 then (if top.getLsbD 0 then 2 else 1) else 0)
  | [] => false

theorem lineShape_read (w : Width) (off : Byte) : lineShape (encodeRead w off) = true := by
  cases w <;> rfl

theorem lineShape_write (d : WData) (off : Byte) : lineShape (encodeWrite d off) = true := by
  cases d <;> rfl

theorem lineShape_rlane (l : RLane) (off : Byte) : lineShape (encodeRLane l off) = true := by
  cases l <;> rfl

theorem lineShape_wlane (l : WLane) (off : Byte) : lineShape (encodeWLane l off) = true := by
  cases l <;> rfl

theorem lineShape_access (a : Access) (off : Byte) : lineShape (encodeAccess a off) = true := by
  cases a
  · exact lineShape_read ..
  · exact lineShape_write ..

theorem lineShape_access8 (a : Access8) (off : Byte) : lineShape (encodeAccess8 a off) = true := by
  cases a <;> rfl

theorem lineShape_access16 (a : Access16) (off : Byte) :
    lineShape (encodeAccess16 a off) = true := by
  cases a <;> rfl

/-- The encoder writes a line of the shape its own W and S bits call for. -/
def EncodedSize.Statement (i : Instr) : Prop := lineShape (encode i) = true

theorem EncodedSize.misalign16 (a : Access16) (off : Byte) : EncodedSize.Statement (.misalign16 a off) :=
  lineShape_access16 ..

theorem EncodedSize.rdData (w : Width) : EncodedSize.Statement (.rdData w) := lineShape_read ..

theorem EncodedSize.wrData (d : WData) : EncodedSize.Statement (.wrData d) := lineShape_write ..

theorem EncodedSize.rz01 (a : Access8) : EncodedSize.Statement (.rz01 a) := lineShape_access8 ..

theorem EncodedSize.rz21 (a : Access8) : EncodedSize.Statement (.rz21 a) := lineShape_access8 ..

theorem EncodedSize.rz29 (a : Access8) : EncodedSize.Statement (.rz29 a) := lineShape_access8 ..

theorem EncodedSize.rdStat (l : RLane) : EncodedSize.Statement (.rdStat l) := lineShape_rlane ..

theorem EncodedSize.wrStat (l : WLane) : EncodedSize.Statement (.wrStat l) := lineShape_wlane ..

theorem EncodedSize.rdMode (l : RLane) : EncodedSize.Statement (.rdMode l) := lineShape_rlane ..

theorem EncodedSize.wrMode (l : WLane) : EncodedSize.Statement (.wrMode l) := lineShape_wlane ..

theorem EncodedSize.rdCtrl (l : RLane) : EncodedSize.Statement (.rdCtrl l) := lineShape_rlane ..

theorem EncodedSize.wrCtrl (l : WLane) : EncodedSize.Statement (.wrCtrl l) := lineShape_wlane ..

theorem EncodedSize.rdBaud (l : RLane) : EncodedSize.Statement (.rdBaud l) := lineShape_rlane ..

theorem EncodedSize.wrBaud (l : WLane) : EncodedSize.Statement (.wrBaud l) := lineShape_wlane ..

theorem EncodedSize.rdIstat (l : RLane) : EncodedSize.Statement (.rdIstat l) := lineShape_rlane ..

theorem EncodedSize.wrIstat (l : WLane) : EncodedSize.Statement (.wrIstat l) := lineShape_wlane ..

theorem EncodedSize.rdScmd (w : Width) : EncodedSize.Statement (.rdScmd w) := lineShape_read ..

theorem EncodedSize.wrScmd (d : WData) : EncodedSize.Statement (.wrScmd d) := lineShape_write ..

theorem EncodedSize.rdSstat (l : RLane) : EncodedSize.Statement (.rdSstat l) := lineShape_rlane ..

theorem EncodedSize.wrSstat (l : WLane) : EncodedSize.Statement (.wrSstat l) := lineShape_wlane ..

theorem EncodedSize.wide24 (a : Access16) : EncodedSize.Statement (.wide24 a) :=
  lineShape_access16 ..

theorem EncodedSize.wide26 (a : Access16) : EncodedSize.Statement (.wide26 a) :=
  lineShape_access16 ..

theorem EncodedSize.rdSaddr : EncodedSize.Statement .rdSaddr := rfl

theorem EncodedSize.wrSaddr (b : Byte) : EncodedSize.Statement (.wrSaddr b) := rfl

theorem EncodedSize.rdSarg : EncodedSize.Statement .rdSarg := rfl

theorem EncodedSize.wrSarg (b : Byte) : EncodedSize.Statement (.wrSarg b) := rfl

theorem EncodedSize.rdSreqlen : EncodedSize.Statement .rdSreqlen := rfl

theorem EncodedSize.wrSreqlen (b : Byte) : EncodedSize.Statement (.wrSreqlen b) := rfl

theorem EncodedSize.rdSmaxresp : EncodedSize.Statement .rdSmaxresp := rfl

theorem EncodedSize.wrSmaxresp (b : Byte) : EncodedSize.Statement (.wrSmaxresp b) := rfl

theorem EncodedSize.rdSresplen (w : Width) : EncodedSize.Statement (.rdSresplen w) :=
  lineShape_read ..

theorem EncodedSize.wrSresplen (d : WData) : EncodedSize.Statement (.wrSresplen d) :=
  lineShape_write ..

theorem EncodedSize.rdSresult (l : RLane) : EncodedSize.Statement (.rdSresult l) :=
  lineShape_rlane ..

theorem EncodedSize.wrSresult (l : WLane) : EncodedSize.Statement (.wrSresult l) :=
  lineShape_wlane ..

theorem EncodedSize.rdStimeout (l : RLane) : EncodedSize.Statement (.rdStimeout l) :=
  lineShape_rlane ..

theorem EncodedSize.wrStimeout (l : WLane) : EncodedSize.Statement (.wrStimeout l) :=
  lineShape_wlane ..

theorem EncodedSize.rdReqbuf (w : Width) (k : BitVec 6) : EncodedSize.Statement (.rdReqbuf w k) :=
  lineShape_read ..

theorem EncodedSize.wrReqbuf (d : WData) (k : BitVec 6) : EncodedSize.Statement (.wrReqbuf d k) :=
  lineShape_write ..

theorem EncodedSize.rdRespbuf (w : Width) (k : BitVec 6) : EncodedSize.Statement (.rdRespbuf w k) :=
  lineShape_read ..

theorem EncodedSize.wrRespbuf (d : WData) (k : BitVec 6) : EncodedSize.Statement (.wrRespbuf d k) :=
  lineShape_write ..

theorem EncodedSize.rdPkt (w : Width) (k : BitVec 6) : EncodedSize.Statement (.rdPkt w k) :=
  lineShape_read ..

theorem EncodedSize.wrPkt (d : WData) (k : BitVec 6) : EncodedSize.Statement (.wrPkt d k) :=
  lineShape_write ..

theorem EncodedSize.unmapped (a : Access) (off : Byte) : EncodedSize.Statement (.unmapped a off) :=
  lineShape_access ..

theorem EncodedSize.init : EncodedSize.Statement .init := rfl

theorem EncodedSize.select : EncodedSize.Statement .select := rfl

theorem EncodedSize.waitack : EncodedSize.Statement .waitack := rfl

theorem EncodedSize.xbyte : EncodedSize.Statement .xbyte := rfl

theorem EncodedSize.xchg : EncodedSize.Statement .xchg := rfl

theorem EncodedSize.xnoack : EncodedSize.Statement .xnoack := rfl

theorem EncodedSize.poll : EncodedSize.Statement .poll := rfl

theorem EncodedSize.probe : EncodedSize.Statement .probe := rfl

theorem EncodedSize.bcast : EncodedSize.Statement .bcast := rfl

theorem EncodedSize.reservedCmd (v : Byte) : EncodedSize.Statement (.reservedCmd v) := rfl

end Sys2Proof.Laws
end

