-- ==== Sys2Proof/Laws/Sequencer.lean ====
section
/-! SUPPORT. What the sequencer's actions can do, said once: what none of them changes, and how a
property that every action keeps is carried through a command body, a START and a tick. -/

namespace Sys2Proof.Machine

/-! ### What no action of the sequencer changes -/

/-- From `s` to `t` the block did something of its own: the parameters, the tick counter, the registers
only a host writes, the error bits and the host's and devices' coming events are unchanged, the wire
record grew, and ISTAT.ACK did not rise. -/
structure Internal (s t : State) : Prop where
  cfg : t.cfg = s.cfg
  now : t.now = s.now
  scmd : t.scmd = s.scmd
  werr : t.werr = s.werr
  aerr : t.aerr = s.aerr
  saddr : t.saddr = s.saddr
  sarg : t.sarg = s.sarg
  sreqlen : t.sreqlen = s.sreqlen
  smaxresp : t.smaxresp = s.smaxresp
  stimeout : t.stimeout = s.stimeout
  rdata : t.rdata = s.rdata
  host : t.host = s.host
  dev : t.dev = s.dev
  resets : t.resets = s.resets
  wire : s.wire <+: t.wire
  ack : t.ack = true → s.ack = true

theorem Internal.refl (s : State) : Internal s s := by
  constructor <;> simp

theorem Internal.trans {s t u : State} (h : Internal s t) (k : Internal t u) : Internal s u where
  cfg := k.cfg.trans h.cfg
  now := k.now.trans h.now
  scmd := k.scmd.trans h.scmd
  werr := k.werr.trans h.werr
  aerr := k.aerr.trans h.aerr
  saddr := k.saddr.trans h.saddr
  sarg := k.sarg.trans h.sarg
  sreqlen := k.sreqlen.trans h.sreqlen
  smaxresp := k.smaxresp.trans h.smaxresp
  stimeout := k.stimeout.trans h.stimeout
  rdata := k.rdata.trans h.rdata
  host := k.host.trans h.host
  dev := k.dev.trans h.dev
  resets := k.resets.trans h.resets
  wire := h.wire.trans k.wire
  ack := fun x => h.ack (k.ack x)

theorem enter_internal (s : State) (q : SeqState) : Internal s (s.enter q) := by
  constructor <;> simp

theorem suspend_internal (s : State) (w : Susp) : Internal s (s.suspend w) := by
  constructor <;> simp

theorem driveAttn_internal (s : State) (b : Bool) (p : Port) : Internal s (s.driveAttn b p) := by
  constructor <;> simp

theorem transceiverReset_internal (s : State) : Internal s s.transceiverReset := by
  constructor <;> simp

theorem endCommand_internal (s : State) : Internal s s.endCommand := by
  constructor <;> simp

theorem flush_internal (s : State) : Internal s s.flush := by
  constructor <;> simp

theorem clearLatches_internal (s : State) : Internal s s.clearLatches := by
  constructor <;> simp

theorem startClear_internal (s : State) : Internal s s.startClear := by
  constructor <;> simp [State.startClear, Config.clearLatchAtStart]

theorem reject_internal (s : State) (e : ErrCode) : Internal s (s.reject e) := by
  constructor <;> simp

theorem routineArgs_internal (s : State) (a : Byte) (src : ReqSrc) (r m : Nat) :
    Internal s (s.routineArgs a src r m) := by
  constructor <;> simp

theorem writeByte_internal (s : State) (a : Nat) (b : Byte) : Internal s (s.writeByte a b) := by
  constructor <;> simp

theorem writePkt_internal (s : State) (k : Nat) (bytes : List Byte) :
    Internal s (s.writePkt k bytes) := by
  induction bytes generalizing s k with
  | nil => exact .refl s
  | cons b bs ih => exact (writeByte_internal s _ b).trans (ih _ _)

theorem tryLoad_internal (s : State) : Internal s s.tryLoad := by
  obtain ⟨h, -⟩ | ⟨b, -, -, -, h⟩ := tryLoad_cases s
  · rw [h]; exact .refl s
  · rw [h]; constructor <;> simp

theorem delayThen_internal (s : State) (d : Nat) (k : Act) : Internal s (s.delayThen d k).1 := by
  unfold State.delayThen
  split_ifs
  · exact .refl s
  · exact suspend_internal ..

/-- A change of the sequencer's internal state and of the transceiver alone. -/
theorem seq_xc_internal (s : State) (q : Sequencer) (x : Xcvr) :
    Internal s { s with seq := q, xc := x } := by
  constructor <;> simp

theorem seq_internal (s : State) (q : Sequencer) : Internal s { s with seq := q } := by
  constructor <;> simp

theorem xc_internal (s : State) (x : Xcvr) : Internal s { s with xc := x } := by
  constructor <;> simp

theorem result_internal (s : State) (r : Half) (n : Byte) :
    Internal s { s with sresult := r, sresplen := n } := by
  constructor <;> simp

theorem xpNextByte_internal (s : State) : Internal s s.xpNextByte.1 := by
  unfold State.xpNextByte
  simp only
  split_ifs
  · exact (enter_internal s .xfer).trans (seq_internal ..)
  · exact enter_internal ..
  · exact .refl s

theorem xnaNextByte_internal (s : State) : Internal s s.xnaNextByte.1 := by
  unfold State.xnaNextByte
  split_ifs
  · exact (enter_internal s .naByte).trans (seq_internal ..)
  · exact .refl s

theorem afterXb_internal (s : State) (r : Byte) : Internal s (s.afterXb r).1 := by
  unfold State.afterXb
  split
  · exact (result_internal s _ s.sresplen).trans (endCommand_internal _)
  · exact enter_internal ..
  · exact ((writeByte_internal s _ r).trans (seq_internal ..)).trans (enter_internal ..)
  · split_ifs
    · exact flush_internal ..
    · exact (enter_internal s _).trans (delayThen_internal ..)
  · exact .refl s

theorem afterWait_internal (s : State) (ok : Bool) : Internal s (s.afterWait ok).1 := by
  unfold State.afterWait
  split
  · exact (result_internal s _ s.sresplen).trans (endCommand_internal _)
  · split_ifs
    · exact (seq_internal ..).trans (flush_internal _)
    · exact seq_internal ..
  · split_ifs <;> exact .refl s
  · exact .refl s

theorem emptyBcast_internal (s : State) : Internal s s.emptyBcast := driveAttn_internal ..

/-- Everything a BCAST that sends nothing can do to attention: it stays as it is, or falls (log 17). -/
theorem emptyBcast_cases (s : State) :
    s.emptyBcast = s ∨ s.emptyBcast = s.driveAttn false s.xc.port := by
  unfold State.emptyBcast
  cases Config.emptyBcastKeepsAttn s.now
  · exact .inr (by simp)
  · exact .inl (by simp)

theorem probeNext_internal (s : State) : Internal s s.probeNext.1 := by
  have h : Internal s
      (if s.present then
        { s with seq := { s.seq with presence := s.seq.presence ||| portMask s.seq.loopPort } }
      else s) := by
    split_ifs
    · exact seq_internal ..
    · exact .refl s
  unfold State.probeNext
  simp only
  split
  · exact h.trans (seq_internal ..)
  · exact h.trans ((result_internal _ _ _).trans (endCommand_internal _))

theorem bcastNext_internal (s : State) : Internal s s.bcastNext.1 := by
  unfold State.bcastNext
  split
  · exact seq_internal ..
  · exact (result_internal ..).trans (endCommand_internal _)

theorem afterPacket_internal (s : State) : Internal s s.afterPacket.1 := by
  unfold State.afterPacket
  simp only
  split
  · exact (result_internal s s.sresult _).trans (endCommand_internal _)
  · exact (result_internal s _ (BitVec.ofNat 8 s.seq.n)).trans (endCommand_internal _)
  · exact (result_internal s s.sresult _).trans (probeNext_internal _)
  · exact (result_internal s s.sresult _).trans (endCommand_internal _)
  · exact bcastNext_internal s
  · exact .refl s

/-- One action of the sequencer is the block's own doing. -/
theorem act_internal (a : Act) (s : State) : Internal s (act a s).1 := by
  cases a with
  | xpStart => exact (enter_internal s _).trans (delayThen_internal ..)
  | preDone =>
    exact (((startClear_internal s).trans (driveAttn_internal ..)).trans (enter_internal ..)).trans
      (delayThen_internal ..)
  | settleDone => exact enter_internal ..
  | xpNextByte => exact xpNextByte_internal s
  | xnaStart =>
    exact ((driveAttn_internal s _ _).trans (enter_internal ..)).trans (seq_internal ..)
  | xnaNextByte => exact xnaNextByte_internal s
  | trail => exact (enter_internal s _).trans (delayThen_internal ..)
  | trailDone =>
    exact ((driveAttn_internal s _ _).trans (enter_internal ..)).trans (delayThen_internal ..)
  | postDone => exact afterPacket_internal s
  | probePort =>
    exact ((driveAttn_internal s _ _).trans (writePkt_internal ..)).trans (routineArgs_internal ..)
  | bcastPort =>
    simp only [act]
    split_ifs
    · exact driveAttn_internal ..
    · exact bcastNext_internal s
  | xbBegin v =>
    simp only [act]
    split_ifs
    · exact seq_internal ..
    · exact (seq_internal ..).trans (suspend_internal ..)
  | xbSend => exact (xc_internal ..).trans (tryLoad_internal _)
  | xbReceive =>
    simp only [act]
    split
    · exact suspend_internal ..
    · exact xc_internal ..
  | xbReturn r => exact afterXb_internal s r
  | waitBegin b => exact seq_internal ..
  | waitCheck =>
    simp only [act]
    split_ifs
    · exact .refl s
    · exact clearLatches_internal s
    · exact delayThen_internal ..
  | waitSlept => exact seq_internal ..
  | waitReturn ok => exact afterWait_internal s ok

/-! ### From one action to a body, a START and a sequencer phase -/

/-- A property that every action keeps is kept by a command body. -/
theorem runActs_keeps {P : State → Prop} (h : ∀ a s, P s → P (act a s).1) (fuel : Nat) (a : Act)
    {s : State} (hs : P s) : P (runActs fuel a s).1 := by
  induction fuel generalizing a s with
  | zero => exact hs
  | succ fuel ih =>
    have h1 := h a s hs
    unfold runActs
    split
    · rename_i s' e; rw [e] at h1; exact h1
    · rename_i s' a' e; rw [e] at h1; exact ih a' h1

/-- The same of the sequencer phase, where the property does not read SUSP. -/
theorem sequencerPhase_keeps {P : State → Prop} (h : ∀ a s, P s → P (act a s).1)
    (hsusp : ∀ s : State, P s → P { s with seq := { s.seq with susp := none } }) {s : State}
    (hs : P s) : P s.sequencerPhase := by
  unfold State.sequencerPhase
  split
  · exact hs
  · split_ifs
    · split
      · exact runActs_keeps h _ _ (hsusp s hs)
      · exact hs
    · exact hs

theorem runActs_internal (fuel : Nat) (a : Act) (s : State) : Internal s (runActs fuel a s).1 :=
  runActs_keeps (P := Internal s) (fun a t ht => ht.trans (act_internal a t)) fuel a (.refl s)

/-- The sequencer phase is the block's own doing. -/
theorem sequencerPhase_internal (s : State) : Internal s s.sequencerPhase :=
  sequencerPhase_keeps (P := Internal s) (fun a t ht => ht.trans (act_internal a t))
    (fun _ ht => ht.trans (seq_internal ..)) (.refl s)

theorem commandEntry_internal (c : Cmd) (s : State) : Internal s (commandEntry c s).1 := by
  cases c with
  | init => exact ((transceiverReset_internal s).trans (xc_internal ..)).trans (endCommand_internal _)
  | select => exact (driveAttn_internal s _ _).trans (endCommand_internal _)
  | waitack => exact enter_internal ..
  | xbyte => exact enter_internal ..
  | xchg => exact routineArgs_internal ..
  | xnoack => exact routineArgs_internal ..
  | poll =>
    exact ((writePkt_internal s _ _).trans (driveAttn_internal ..)).trans (routineArgs_internal ..)
  | probe => exact seq_internal ..
  | bcast =>
    simp only [commandEntry]
    split
    · split_ifs
      · exact (((writePkt_internal s _ _).trans (routineArgs_internal ..)).trans
          (emptyBcast_internal _)).trans (seq_internal ..)
      · exact ((writePkt_internal s _ _).trans (routineArgs_internal ..)).trans (seq_internal ..)
    · exact endCommand_internal s

theorem accept_internal (s : State) (c : Cmd) : Internal s (s.accept c) := by
  constructor <;> simp [State.accept]

/-- Everything the START of a command can do: a rejection, or the acceptance and the body's first
actions (R200). -/
theorem startCommand_cases (s : State) (c : Cmd) :
    (s.operandError c ≠ .noError ∧ s.startCommand c = s.reject (s.operandError c)) ∨
    (s.operandError c = .noError ∧ s.startCommand c = (s.accept c).launch c) := by
  unfold State.startCommand
  split
  · rename_i h; exact .inr ⟨h, rfl⟩
  · rename_i h; exact .inl ⟨fun e => h e, rfl⟩

/-- Everything the launch of a body can do. -/
theorem launch_cases (s : State) (c : Cmd) :
    ((commandEntry c s).2 = none ∧ s.launch c = (commandEntry c s).1) ∨
    (∃ a, (commandEntry c s).2 = some a ∧
      s.launch c = (runActs actBound a (commandEntry c s).1).1) := by
  unfold State.launch
  split
  · rename_i e; exact .inl ⟨by rw [e], by rw [e]⟩
  · rename_i e; exact .inr ⟨_, by rw [e], by rw [e]; rfl⟩

theorem launch_internal (s : State) (c : Cmd) : Internal s (s.launch c) := by
  obtain ⟨-, h⟩ | ⟨a, -, h⟩ := launch_cases s c
  · rw [h]; exact commandEntry_internal c s
  · rw [h]; exact (commandEntry_internal c s).trans (runActs_internal ..)

/-- A START is the block's own doing. -/
theorem startCommand_internal (s : State) (c : Cmd) : Internal s (s.startCommand c) := by
  obtain ⟨-, h⟩ | ⟨-, h⟩ := startCommand_cases s c
  · rw [h]; exact reject_internal ..
  · rw [h]; exact (accept_internal s c).trans (launch_internal ..)

/-- A START from the byte written: the command it selects, or the rejection ILLCMD (R200, R210). -/
theorem start_cases (s : State) (v : Byte) :
    (∃ c, cmdOfByte v = some c ∧ s.start v = s.startCommand c) ∨
    (cmdOfByte v = none ∧ s.start v = s.reject .illCmd) := by
  unfold State.start
  split
  · rename_i c e; exact .inl ⟨c, e, rfl⟩
  · rename_i e; exact .inr ⟨e, rfl⟩

/-- One more action of a body (R201). -/
theorem runActs_step {a a' : Act} {s s' : State} (h : act a s = (s', some a')) (fuel : Nat) :
    runActs (fuel + 1) a s = runActs fuel a' s' := by simp [runActs, h]

/-- The last action of a body (R201). -/
theorem runActs_stop {a : Act} {s s' : State} (h : act a s = (s', none)) (fuel : Nat) :
    runActs (fuel + 1) a s = (s', none) := by simp [runActs, h]

end Sys2Proof.Machine
end

