-- ==== Sys2Proof/Laws/Tick.lean ====
section
/-! SUPPORT. What the sequencer phase and a tick can do. -/

namespace Sys2Proof.Machine

/-- Everything the sequencer phase can do: nothing (no suspension, a condition that does not hold, or a
suspension that STATE gives no point to go on at), or the body from its point (R201). -/
theorem sequencerPhase_cases (s : State) :
    (s.sequencerPhase = s ∧ ∀ w, s.seq.susp = some w →
      s.suspHolds w = false ∨ resumePoint s.st w = none) ∨
    (∃ w a, s.seq.susp = some w ∧ s.suspHolds w = true ∧ resumePoint s.st w = some a ∧
      s.sequencerPhase = (runActs actBound a { s with seq := { s.seq with susp := none } }).1) := by
  unfold State.sequencerPhase
  split
  · rename_i h
    exact .inl ⟨rfl, by simp [h]⟩
  · rename_i w h
    cases hw : s.suspHolds w with
    | false => exact .inl ⟨by simp, by simp [h, hw]⟩
    | true =>
      cases hr : resumePoint s.st w with
      | none => exact .inl ⟨by simp, by simp [h, hr]⟩
      | some a => exact .inr ⟨w, a, h, hw, hr, by simp [State.runBody]⟩

/-- A tick is its three phases after the counter's advance, under the devices' input (R24). -/
theorem tick_eq (s : State) :
    s.tick = (((s.advance.dropDev.transceiverPhase s.advance.devInput.rx).ackPhase
      s.advance.devInput.ack).sequencerPhase) := rfl

/-- The devices' input of a tick is the next scripted one. -/
theorem devInput_cons {s : State} {d : DevInput} {ds : List DevInput} (h : s.dev = d :: ds) :
    s.devInput = d := by simp [State.devInput, h]

/-- A property that the advance and the three phases keep is kept by a tick. -/
theorem tick_keeps {P : State → Prop} (hadv : ∀ s, P s → P s.advance.dropDev)
    (hx : ∀ s r, P s → P (s.transceiverPhase r)) (hack : ∀ s b, P s → P (s.ackPhase b))
    (hseq : ∀ s, P s → P s.sequencerPhase) {s : State} (h : P s) : P s.tick :=
  hseq _ (hack _ _ (hx _ _ (hadv _ h)))

theorem receive_internal (s : State) (r : Byte) : Internal s (s.receive r) := by
  obtain ⟨-, h⟩ | ⟨-, -, h⟩ | ⟨-, -, h⟩ := receive_cases s r <;> rw [h]
  · exact .refl s
  · exact xc_internal ..
  · exact xc_internal ..

theorem complete_internal (s : State) (r : Byte) : Internal s (s.complete r) :=
  ((xc_internal s _).trans (receive_internal _ r)).trans (tryLoad_internal _)

theorem transceiverPhase_internal (s : State) (r : Byte) : Internal s (s.transceiverPhase r) := by
  obtain ⟨h, -⟩ | ⟨b, -, h⟩ := transceiverPhase_cases s r <;> rw [h]
  · exact .refl s
  · exact complete_internal s r

end Sys2Proof.Machine
end

