-- ==== Sys2Proof/Laws/Step.lean ====
section
/-! SUPPORT. What the shared operations of the host port and a step can do. -/

namespace Sys2Proof.Machine

/-! ### The host port -/

/-- An accepted read (R67, R120). -/
theorem reply_eq (s : State) (x : Half) : s.reply x = .next { s with rdata := x } := rfl

/-- A read that is not accepted (R156 to R158). -/
theorem badRead_eq (s : State) : s.badRead = .next { s with aerr := true, rdata := 0 } := rfl

/-- A write that is not accepted (R121, R126). -/
theorem badWrite_eq (s : State) :
    s.badWrite = .next (if s.busy then { s with werr := true } else { s with aerr := true }) := by
  cases h : s.busy <;> simp [State.badWrite, State.wrote, State.whenIdle, h, State.raiseWerr,
    State.raiseAerr]

/-- A guarded write, in one equation (R121). -/
theorem wrote_eq (s s' : State) :
    s.wrote s' = .next (if s.busy then { s with werr := true } else s') := by
  cases h : s.busy <;> simp [State.wrote, State.whenIdle, h, State.raiseWerr]

/-- An access of an RZ byte (R124). -/
theorem rzAccess_eq (s : State) (a : Access8) :
    s.rzAccess a =
      match a with
      | .read => .next { s with rdata := 0 }
      | .write _ => .next (if s.busy then { s with werr := true } else s) := by
  cases a
  · rfl
  · exact wrote_eq s s

/-- A write of DATA, in all its cases (R123). -/
theorem execWrData_cases (d : WData) (s : State) :
    (s.busy = true ∧ execWrData d s = .next s.raiseWerr) ∨
    (s.busy = false ∧ s.xc.lineOk = false ∧ execWrData d s = .refused .lineNotOk) ∨
    (s.busy = false ∧ s.xc.lineOk = true ∧ s.xc.txh.isSome = true ∧
      execWrData d s = .next s.raiseAerr) ∨
    (s.busy = false ∧ s.xc.lineOk = true ∧ s.xc.txh = none ∧
      execWrData d s =
        .next (State.tryLoad { s with xc := { s.xc with txh := some (dataLow d) } })) := by
  unfold execWrData State.whenIdle
  cases hb : s.busy
  · cases hl : s.xc.lineOk
    · exact .inr (.inl ⟨rfl, rfl, rfl⟩)
    · cases ht : s.xc.txh
      · exact .inr (.inr (.inr ⟨rfl, rfl, rfl, by simp⟩))
      · exact .inr (.inr (.inl ⟨rfl, rfl, rfl, by simp⟩))
  · exact .inl ⟨rfl, by simp⟩

/-! ### The step -/

/-- Everything a step can do: a tick, an instruction, or the refusal of a line that is none. -/
theorem step_cases (s : State) :
    (s.host = [] ∧ step s = .next s.tick) ∨
    (∃ rest, s.host = .endPhase :: rest ∧ step s = .next (State.tick { s with host := rest })) ∨
    (∃ bytes rest i, s.host = .line bytes :: rest ∧ decode bytes = .ok i ∧
      step s = exec i { s with host := rest }) ∨
    (∃ bytes rest e, s.host = .line bytes :: rest ∧ decode bytes = .error e ∧
      step s = .refused (refusalOf e)) := by
  unfold step
  split
  · rename_i h; exact .inl ⟨h, rfl⟩
  · rename_i rest h; exact .inr (.inl ⟨rest, h, rfl⟩)
  · rename_i bytes rest h
    split
    · rename_i i hd; exact .inr (.inr (.inl ⟨bytes, rest, i, h, hd, rfl⟩))
    · rename_i e hd; exact .inr (.inr (.inr ⟨bytes, rest, e, h, hd, rfl⟩))

/-- A step at a state with a table word as its host's next line reads that line (log 14). -/
theorem withFetchWord_host (s : State) (nbits w : Nat) :
    (s.withFetchWord nbits w).host = .line (tableLine nbits w) :: s.host := rfl

end Sys2Proof.Machine
end

