-- ==== Sys2Proof/Tests/Slice0.lean ====
section
/-! SUPPORT. Small tests: terms that WellFormed refuses, words written out from the spec's tables, one
step of each instruction with the spec's examples, and for each statement with hypotheses a state that
meets them. -/

open Sys2Proof Sys2Proof.Machine Sys2Proof.Claims

namespace Sys2Proof.Tests

/-! ### WellFormed refuses ill-formed terms -/

theorem test_wf_misalign16_even_offset : Instr.wf (.misalign16 .read 0x0A) = false := by decide
theorem test_wf_reqbuf_read_odd : Instr.wf (.rdReqbuf .w16 1) = false := by decide
theorem test_wf_reqbuf_write_odd : Instr.wf (.wrReqbuf (.w16 0) 63) = false := by decide
theorem test_wf_respbuf_read_odd : Instr.wf (.rdRespbuf .w16 3) = false := by decide
theorem test_wf_respbuf_write_odd : Instr.wf (.wrRespbuf (.w16 0) 5) = false := by decide
theorem test_wf_pkt_read_odd : Instr.wf (.rdPkt .w16 63) = false := by decide
theorem test_wf_pkt_write_odd : Instr.wf (.wrPkt (.w16 0) 7) = false := by decide
theorem test_wf_unmapped_mapped_offset : Instr.wf (.unmapped (.read .w8) 0x04) = false := by decide
theorem test_wf_unmapped_wide_odd : Instr.wf (.unmapped (.read .w16) 0x13) = false := by decide
theorem test_wf_reserved_real_command : Instr.wf (.reservedCmd 0x12) = false := by decide

/-! ### Decoding: words written out from R91 to R93, one for every constructor -/

theorem test_decode_data :
    decode [0x00, 0x00] = .ok (.rdData .w8) ∧ decode [0x00, 0x02, 0x41] = .ok (.wrData (.w8 0x41)) ∧
    decode [0x01, 0x00] = .ok (.rz01 .read) ∧ decode [0x21, 0x02, 0xFF] = .ok (.rz21 (.write 0xFF)) ∧
    decode [0x29, 0x00] = .ok (.rz29 .read) := by decide

theorem test_decode_transceiver_reads :
    decode [0x04, 0x01] = .ok (.rdStat .whole) ∧ decode [0x05, 0x00] = .ok (.rdStat .hi) ∧
    decode [0x08, 0x00] = .ok (.rdMode .lo) ∧ decode [0x0A, 0x01] = .ok (.rdCtrl .whole) ∧
    decode [0x0F, 0x00] = .ok (.rdBaud .hi) ∧ decode [0x10, 0x01] = .ok (.rdIstat .whole) := by decide

theorem test_decode_transceiver_writes :
    decode [0x04, 0x02, 0x01] = .ok (.wrStat (.lo 0x01)) ∧
    decode [0x08, 0x03, 0x0D, 0x00] = .ok (.wrMode (.whole 0x000D)) ∧
    decode [0x0B, 0x02, 0x20] = .ok (.wrCtrl (.hi 0x20)) ∧
    decode [0x0E, 0x03, 0x87, 0x01] = .ok (.wrBaud (.whole 0x0187)) ∧
    decode [0x11, 0x02, 0x00] = .ok (.wrIstat (.hi 0x00)) := by decide

theorem test_decode_sequencer :
    decode [0x20, 0x00] = .ok (.rdScmd .w8) ∧ decode [0x20, 0x02, 0x05] = .ok (.wrScmd (.w8 0x05)) ∧
    decode [0x23, 0x00] = .ok (.rdSstat .hi) ∧
    decode [0x22, 0x03, 0x00, 0x03] = .ok (.wrSstat (.whole 0x0300)) ∧
    decode [0x24, 0x01] = .ok (.wide24 .read) ∧
    decode [0x26, 0x03, 0x34, 0x12] = .ok (.wide26 (.write 0x1234)) := by decide

theorem test_decode_parameters :
    decode [0x24, 0x00] = .ok .rdSaddr ∧ decode [0x24, 0x02, 0x81] = .ok (.wrSaddr 0x81) ∧
    decode [0x25, 0x00] = .ok .rdSarg ∧ decode [0x25, 0x02, 0x03] = .ok (.wrSarg 0x03) ∧
    decode [0x26, 0x00] = .ok .rdSreqlen ∧ decode [0x26, 0x02, 0x04] = .ok (.wrSreqlen 0x04) ∧
    decode [0x27, 0x00] = .ok .rdSmaxresp ∧ decode [0x27, 0x02, 0x20] = .ok (.wrSmaxresp 0x20) := by
  decide

theorem test_decode_results :
    decode [0x28, 0x01] = .ok (.rdSresplen .w16) ∧
    decode [0x28, 0x02, 0x01] = .ok (.wrSresplen (.w8 0x01)) ∧
    decode [0x2A, 0x01] = .ok (.rdSresult .whole) ∧
    decode [0x2B, 0x02, 0x01] = .ok (.wrSresult (.hi 0x01)) ∧
    decode [0x2D, 0x00] = .ok (.rdStimeout .hi) ∧
    decode [0x2C, 0x03, 0x78, 0x00] = .ok (.wrStimeout (.whole 120)) := by decide

theorem test_decode_buffers :
    decode [0x40, 0x01] = .ok (.rdReqbuf .w16 0) ∧
    decode [0x7F, 0x02, 0x41] = .ok (.wrReqbuf (.w8 0x41) 63) ∧
    decode [0x81, 0x00] = .ok (.rdRespbuf .w8 1) ∧
    decode [0x80, 0x03, 0xEE, 0xEF] = .ok (.wrRespbuf (.w16 0xEFEE) 0) ∧
    decode [0xC2, 0x00] = .ok (.rdPkt .w8 2) ∧ decode [0xC0, 0x02, 0x42] = .ok (.wrPkt (.w8 0x42) 0) :=
  by decide

theorem test_decode_unaccepted :
    decode [0x05, 0x01] = .ok (.misalign16 .read 0x05) ∧
    decode [0xFF, 0x03, 0x01, 0x02] = .ok (.misalign16 (.write 0x0201) 0xFF) ∧
    decode [0x12, 0x00] = .ok (.unmapped (.read .w8) 0x12) ∧
    decode [0x3E, 0x03, 0x01, 0x02] = .ok (.unmapped (.write (.w16 0x0201)) 0x3E) := by decide

theorem test_decode_commands :
    decode [0x01] = .ok .init ∧ decode [0x02] = .ok .select ∧ decode [0x03] = .ok .waitack ∧
    decode [0x04] = .ok .xbyte ∧ decode [0x05] = .ok .xchg ∧ decode [0x06] = .ok .xnoack ∧
    decode [0x10] = .ok .poll ∧ decode [0x11] = .ok .probe ∧ decode [0x12] = .ok .bcast ∧
    decode [0x07] = .ok (.reservedCmd 0x07) ∧ decode [0x99] = .ok (.reservedCmd 0x99) := by decide

theorem test_decode_refuses :
    decode [] = .error .transactionSize ∧ decode [0x20, 0x02] = .error .transactionSize ∧
    decode [0x20, 0x02, 0x01, 0x00] = .error .transactionSize ∧
    decode [0x0A, 0x03, 0x00] = .error .transactionSize ∧
    decode [0x04, 0x00, 0x00] = .error .transactionSize ∧
    decode [0x00, 0x04] = .error .codeWidth := by decide

theorem test_table_words :
    decodeTableWord 8 0x10 = some .poll ∧ decodeTableWord 8 0x21 = some (.rz21 .read) ∧
    decodeTableWord 16 0x220 = some (.wrScmd (.w8 0x00)) ∧
    decodeTableWord 16 0x101 = some (.misalign16 .read 0x01) := by decide

/-! ### One step of each instruction, the expected values from the spec's examples -/

/-- The block after power-on, under the reference parameters of R7. -/
def base : State := { State.reset with cfg := Params.ref }

/-- The block as INIT leaves its transceiver (R206). -/
def ready : State :=
  { base with
    xc := { Xcvr.reset with
      txen := true, rxen := true, ackie := true, mult := 1, chlen := 3, baud := 0x0087 } }

/-- The block in the settle delay of an XCHG that began at tick 0 (R233). -/
def settling : State :=
  { ready with
    now := 20, busy := true, st := .settle
    xc := { ready.xc with attn := true }
    seq := { Sequencer.reset with cur := some .xchg, susp := some (.untilTick 170) } }

/-- The block with the text "ABC" in REQBUF. -/
def texted : State := { ready with mem := [(0x40, 0x41), (0x41, 0x42), (0x42, 0x43), (0x43, 0x00)] }

/-- The state after one host line. -/
def after (line : List Byte) (s : State) : State :=
  match step { s with host := [.line line] } with
  | .next t => t
  | _ => s

theorem test_misalign16 : -- R156: `rd16 0x05` returns 0 and sets AERR
    (after [0x05, 0x01] { base with rdata := 7 }).rdata = 0 ∧ (after [0x05, 0x01] base).aerr = true := by
  decide

theorem test_rd_data : -- R122's example
    let t := after [0x00, 0x00] { ready with xc := { ready.xc with rxf := [0x41, 0x5A] } }
    t.rdata = 0x0041 ∧ t.xc.rxf = [0x5A] ∧ t.aerr = false := by decide

theorem test_rd_data_empty : (after [0x00, 0x01] ready).aerr = true := by decide -- R122

theorem test_wr_data : -- R123: the shift starts at once and completes BYTE_US later
    (after [0x00, 0x02, 0x01] ready).xc.sh = some (0x01, 32) ∧
    (after [0x00, 0x02, 0x01] ready).wire = [.shift 0 .port0 false 0x01] := by decide

theorem test_wr_data_refused : -- R170: no step before the line is usable
    exec (.wrData (.w8 0x01)) base = .refused .lineNotOk := rfl

theorem test_rz : -- R124
    (after [0x01, 0x00] { base with rdata := 9 }).rdata = 0 ∧
    (after [0x21, 0x00] { base with rdata := 9 }).rdata = 0 ∧
    (after [0x29, 0x00] { base with rdata := 9 }).rdata = 0 := by decide

theorem test_rz_write : -- R124, R121
    (after [0x21, 0x02, 0x05] base).aerr = false ∧
    (after [0x29, 0x02, 0x05] settling).werr = true := by decide

theorem test_rd_stat : (after [0x04, 0x01] base).rdata = 0x0005 := by decide -- R125's example

theorem test_wr_stat : -- R126
    (after [0x04, 0x03, 0xFF, 0xFF] base).aerr = true ∧
    (after [0x04, 0x03, 0xFF, 0xFF] settling).aerr = false := by decide

theorem test_rd_mode : (after [0x08, 0x01] ready).rdata = 0x000D := by decide -- R129's example

theorem test_wr_mode : -- R130's example
    let t := after [0x08, 0x03, 0x01, 0x00] ready
    t.xc.mult = 1 ∧ t.xc.chlen = 0 := by decide

theorem test_rd_ctrl : (after [0x0A, 0x01] ready).rdata = 0x1005 := by decide -- R127's example

theorem test_wr_ctrl : -- R128's example
    let t := after [0x0A, 0x03, 0x07, 0x30] ready
    t.xc.port = .port1 ∧ t.attnLine .port1 = true ∧ t.xc.ackie = true ∧ t.wire = [.attn 0 .port1 true] :=
  by decide

theorem test_wr_ctrl_low_byte : -- R95's example
    let s := { ready with xc := { ready.xc with irq := true, port := .port1 } }
    let t := after [0x0A, 0x02, 0x10] s
    t.xc.irq = false ∧ t.xc.txen = false ∧ t.xc.rxen = false ∧ t.xc.ackie = true ∧
      t.xc.port = .port1 := by decide

theorem test_rd_baud : (after [0x0E, 0x01] ready).rdata = 0x0087 := by decide -- R131's example

theorem test_wr_baud : -- R132's example: BAUD = 0, then a bus command is NOTREADY
    (after [0x0E, 0x03, 0x00, 0x00] ready).xc.baud = 0 ∧
    (after [0x05] { ready with xc := { ready.xc with baud := 0 } }).err = .notReady := by decide

theorem test_rd_istat : (after [0x10, 0x01] { base with ack := true }).rdata = 0x0080 := by decide

theorem test_wr_istat : -- R134's example, R95's example
    (after [0x10, 0x03, 0x00, 0x00] { base with ack := true }).ack = false ∧
    (after [0x11, 0x02, 0x00] { base with ack := true }).ack = true := by decide

theorem test_rd_scmd : (after [0x20, 0x00] { base with scmd := 0x10 }).rdata = 0x0010 := by decide

theorem test_wr_scmd : -- R136's example
    let t := after [0x20, 0x02, 0x99] base
    t.scmd = 0x99 ∧ t.err = .illCmd ∧ t.done = true ∧ t.busy = false := by decide

theorem test_rd_sstat : (after [0x22, 0x01] settling).rdata = 0x2001 := by decide -- R137's example

theorem test_wr_sstat : -- R138's example, and while BUSY
    let t := after [0x22, 0x03, 0x00, 0x03] { settling with werr := true, aerr := true }
    t.werr = false ∧ t.aerr = false := by decide

theorem test_wide : -- R157
    (after [0x24, 0x03, 0x01, 0x00] { base with saddr := 5 }).saddr = 5 ∧
    (after [0x24, 0x03, 0x01, 0x00] base).aerr = true ∧ (after [0x26, 0x01] base).aerr = true := by decide

theorem test_saddr : -- R139's example, R140
    (after [0x24, 0x00] { base with saddr := 0x81 }).rdata = 0x0081 ∧
    (after [0x24, 0x02, 0x01] base).saddr = 0x01 := by decide

theorem test_sarg : -- R141, R142's example
    (after [0x25, 0x00] { base with sarg := 0xF3 }).rdata = 0x00F3 ∧
    (after [0x25, 0x02, 0x03] base).sarg = 0x03 := by decide

theorem test_sreqlen : -- R143, R144: a value above 64 is stored
    (after [0x26, 0x00] { base with sreqlen := 4 }).rdata = 4 ∧
    (after [0x26, 0x02, 0x41] base).sreqlen = 0x41 := by decide

theorem test_smaxresp : -- R145, R146's example
    (after [0x27, 0x00] { base with smaxresp := 5 }).rdata = 5 ∧
    (after [0x27, 0x02, 0x20] base).smaxresp = 32 := by decide

theorem test_sresplen : -- R147, R126
    (after [0x28, 0x01] { base with sresplen := 4 }).rdata = 0x0004 ∧
    (after [0x28, 0x02, 0x04] base).sresplen = 0 := by decide

theorem test_sresult : -- R148's example, R126
    (after [0x2A, 0x01] { base with sresult := 0x0002 }).rdata = 0x0002 ∧
    (after [0x2A, 0x03, 0x04, 0x00] base).aerr = true := by decide

theorem test_stimeout : -- R149, R150's example
    (after [0x2D, 0x00] { base with stimeout := 0x1234 }).rdata = 0x0012 ∧
    (after [0x2C, 0x03, 0x78, 0x00] base).stimeout = 120 := by decide

theorem test_reqbuf : -- R151's example, R152's example
    (after [0x40, 0x01] { base with mem := [(0x40, 0x42), (0x41, 0x00)] }).rdata = 0x0042 ∧
    (after [0x40, 0x02, 0x41] base).mem = [(0x40, 0x41)] := by decide

theorem test_respbuf : -- R153 while BUSY, R154's example
    (after [0x81, 0x00] { settling with mem := [(0x81, 0x5A)] }).rdata = 0x005A ∧
    (after [0x80, 0x03, 0xEE, 0xEF] base).mem = [(0x80, 0xEE), (0x81, 0xEF)] := by decide

theorem test_pkt : -- R155, R126's example
    (after [0xC2, 0x00] { base with mem := [(0xC2, 0x04)] }).rdata = 0x0004 ∧
    (after [0xC0, 0x02, 0x42] base).mem = [] ∧ (after [0xC0, 0x02, 0x42] base).aerr = true := by decide

theorem test_unmapped : -- R158's example
    (after [0x12, 0x00] { base with rdata := 3 }).rdata = 0 ∧ (after [0x12, 0x00] base).aerr = true := by
  decide

theorem test_init : -- R206's example
    let t := after [0x01] base
    t.xc.baud = 0x0087 ∧ ctrlValue t.xc = 0x1005 ∧ modeValue t.xc = 0x000D ∧ t.done = true := by decide

theorem test_select : -- R207's example
    (after [0x02] { ready with sarg := 0x01 }).xc.port = .port1 := by decide

theorem test_waitack : -- R208: T = 0 leaves a latched ACK set; T = 120 polls at the next increment
    (after [0x03] { ready with ack := true }).ack = true ∧
    (after [0x03] { ready with stimeout := 120 }).seq.susp = some (.untilTick 10) := by decide

theorem test_xbyte : -- R209's example: the byte is REQBUF[0]
    let t := after [0x04] { ready with mem := [(0x40, 0x01)] }
    t.xc.sh = some (0x01, 32) ∧ t.seq.susp = some .rxReady ∧ t.st = .byteCmd := by decide

theorem test_xchg : -- R233: PRE until T_PRE_US = 20; R144: RANGE above 64
    (after [0x05] ready).seq.susp = some (.untilTick 20) ∧ (after [0x05] ready).st = .pre ∧
    (after [0x05] { ready with sreqlen := 65 }).err = .range := by decide

theorem test_xnoack : -- R235: attention and the address byte at once
    (after [0x06] { ready with saddr := 0x81 }).wire =
      [.attn 0 .port0 true, .shift 0 .port0 true 0x81] := by decide

theorem test_poll : -- R261: the request, under the reference codes
    (after [0x10] ready).mem = [(0xC0, 0x42), (0xC1, 0x00), (0xC2, 0x00), (0xC3, 0x00)] := by decide

theorem test_probe : -- R263: the request, under the reference codes
    (after [0x11] ready).mem =
      [(0xC0, 0xA0), (0xC1, 0x00), (0xC2, 0x00), (0xC3, 0x00), (0xC4, 0x00)] := by decide

theorem test_bcast : -- R265's example: the length byte of "ABC" is 4
    let t := after [0x12] { texted with sarg := 0x03 }
    t.readByte 0xC2 = 0x04 ∧ t.readByte 0xC5 = 0x43 ∧ t.readByte 0xC6 = 0x00 ∧ t.seq.rl0 = 7 := by decide

theorem test_bcast_empty_mask : -- R200; vector C16: no wire events
    (after [0x12] texted).done = true ∧ (after [0x12] texted).wire = [] := by decide

theorem test_reserved : -- R210's example: SSTAT = 0x0012
    sstatValue (after [0x00] base) = 0x0012 := by decide

/-! ### For each statement with hypotheses, states and operands that meet them -/

theorem witness_DecodeOfEncode :
    Instr.wf (.wrReqbuf (.w16 0x1234) 62) = true ∧ Instr.wf (.unmapped (.read .w16) 0x3E) = true := by
  decide

theorem witness_DecodedLineIsItsEncoding : decode [0xFE, 0x01] = .ok (.rdPkt .w16 62) := by decide

/-- The state `base` with one host line. -/
def withLine (bytes : List Byte) : State := { base with host := [.line bytes] }

theorem witness_StepRunsTheDecodedLine :
    (withLine [0x01]).host = .line [0x01] :: [] ∧ decode [0x01] = .ok .init ∧
    (withLine [0x20]).host = .line [0x20] :: [] ∧ decode [0x20, 0x02] = .error .transactionSize ∧
    (withLine [0x00, 0x04]).host = .line [0x00, 0x04] :: [] ∧ decode [0x00, 0x04] = .error .codeWidth := by
  decide

theorem witness_StepRunsThePhasesInOrder :
    base.host = [] ∧ ({ base with host := [.endPhase] } : State).host = .endPhase :: [] ∧
    ({ base with dev := [⟨true, 0xFF⟩] } : State).dev = ⟨true, 0xFF⟩ :: [] := by decide

theorem witness_InvOfAnIdleState : base.Inv where
  params := by decide
  memory := by decide
  xcvr := ⟨by rintro b t ⟨⟩, by decide, by decide⟩
  seq := ⟨by decide, by decide, by rintro c ⟨⟩, by rintro t ⟨⟩, by rintro ⟨⟩, by rintro ⟨⟩⟩
  count := ⟨by rintro c ⟨⟩, by rintro c ⟨⟩, by decide, by decide, by decide, by decide, by decide,
    by decide⟩
  attn := ⟨by decide, by decide⟩

theorem witness_InvOfARunningExchange : settling.Inv where
  params := by decide
  memory := by decide
  xcvr := ⟨by rintro b t ⟨⟩, by decide, by decide⟩
  seq := ⟨by decide, by decide, by rintro c ⟨⟩; exact ⟨rfl, rfl, by decide, _, rfl, rfl⟩,
    by rintro t ⟨⟩; decide, by rintro ⟨⟩, by rintro ⟨⟩⟩
  count := ⟨by rintro c ⟨⟩; decide, by rintro c ⟨⟩; decide, by decide, by decide, by decide,
    by decide, by decide, by decide⟩
  attn := ⟨by decide, by decide⟩

/-- The block in a WAITACK that polls (R208). -/
def polling : State :=
  { ready with
    busy := true, st := .waitCmd
    seq := { Sequencer.reset with cur := some .waitack, rem := 20, susp := some (.untilTick 10) } }

theorem witness_InvOfAWaiter : polling.Inv where
  params := by decide
  memory := by decide
  xcvr := ⟨by rintro b t ⟨⟩, by decide, by decide⟩
  seq := ⟨by decide, by decide, by rintro c ⟨⟩; exact ⟨rfl, rfl, by decide, _, rfl, rfl⟩,
    by rintro t ⟨⟩; decide, by rintro ⟨⟩, by rintro ⟨⟩⟩
  count := ⟨by rintro c ⟨⟩; decide, by rintro c ⟨⟩; decide, by decide, by decide, by decide,
    by decide, by decide, by decide⟩
  attn := ⟨by decide, by decide⟩

theorem witness_EveryStepKeepsTheInvariant :
    settling.Inv ∧ step settling = .next settling.tick :=
  ⟨witness_InvOfARunningExchange, rfl⟩

theorem witness_EveryStepKeepsTheMemoryForm :
    texted.mem.wf = true ∧ ∃ t, step { texted with host := [.line [0xBF, 0x02, 0x07]] } = .next t :=
  ⟨by decide, _, rfl⟩

theorem witness_EveryStepKeepsParametersAndRecord : step settling = .next settling.tick := rfl

theorem witness_EveryAttentionChangeIsRecorded :
    ∃ t, step { settling with busy := false, host := [.line [0x0B, 0x02, 0x20]] } = .next t ∧
      t.attnLine .port1 = true := ⟨_, rfl, by decide⟩

theorem witness_BlockResetRestoresTheInvariant : settling.cfg.Ok := by decide

theorem witness_BusyHostChangesOnlyErrorBits_BusyFilterRaisesWerr :
    settling.busy = true ∧ filteredWrite (.wrPkt (.w16 0) 62) = true ∧
      filteredWrite .init = true := by decide

theorem witness_SelectedPortPersists :
    mayMovePort (.wrScmd (.w8 0x05)) = false ∧
    (∃ t, exec (.wrScmd (.w8 0x05)) { ready with xc := { ready.xc with port := .port1 } } = .next t) ∧
    settling.seq.cur ≠ some .probe ∧ settling.seq.cur ≠ some .bcast :=
  ⟨by decide, ⟨_, rfl⟩, by decide, by decide⟩

theorem witness_BufferReads : (62 : BitVec 6).getLsbD 0 = false := by decide

theorem witness_DataReads :
    ready.busy = false ∧ ready.xc.rxf = [] ∧ settling.busy = true ∧
    ({ ready.xc with rxf := [0x41] } : Xcvr).rxf = 0x41 :: [] := by decide

theorem witness_RzBytes : (Instr.rz21 : Access8 → Instr) = .rz21 := rfl

theorem witness_UnacceptedAccesses :
    unacceptedRead (.misalign16 .read 0xFF) = true ∧ unacceptedRead (.unmapped (.read .w8) 0x3F) = true ∧
    unacceptedWrite (.wrPkt (.w8 1) 63) = true ∧ unacceptedWrite (.wide26 (.write 0)) = true := by decide

theorem witness_ModeAndBaudWrites_IstatWrites_InitConfiguresTheTransceiver_SelectSetsThePort : base.busy = false ∧ ready.busy = false := by decide

theorem witness_CtrlWrites :
    (merged (.whole 0x0050) (ctrlValue ready.xc)).testBit 6 = true ∧
    (merged (.lo 0x10) (ctrlValue ready.xc)).testBit 6 = false ∧ ready.busy = false ∧
    settling.busy = true ∧ WLane.hi 0xFF = .hi 0xFF := by decide

theorem witness_DataWrites :
    ready.busy = false ∧ LineOk ready.xc ∧ ready.xc.txh = none ∧ ready.xc.txen = true ∧
    ready.xc.sh = none ∧
    ({ ready.xc with txh := some 0x01 } : Xcvr).txh.isSome = true ∧
    ({ ready.xc with sh := some (0x01, 5) } : Xcvr).sh.isSome = true ∧
    (0x41 : Byte) = BitVec.ofNat 8 (0xFF41 : Half).toNat := by decide

theorem witness_EveryOtherInstructionCompletes : ∀ d, Instr.rdSaddr ≠ .wrData d := by
  intro d; simp

theorem witness_BufferWrites :
    ready.busy = false ∧ (62 : BitVec 6).getLsbD 0 = false ∧
    (Instr.wrRespbuf : WData → BitVec 6 → Instr) = .wrRespbuf := ⟨by decide, by decide, rfl⟩

theorem witness_CommandByteWrite :
    base.busy = false ∧ (0x99 : Byte) = BitVec.ofNat 8 (0x1299 : Half).toNat := by decide

theorem witness_ReservedCommandIsRejected :
    base.busy = false ∧ (0x00 : Byte).toNat = 0x00 ∧ 0x07 ≤ (0x0F : Byte).toNat ∧
    (0x0F : Byte).toNat ≤ 0x0F ∧ 0x13 ≤ (0x13 : Byte).toNat ∧
    (0x13 : Byte) = BitVec.ofNat 8 (0x0113 : Half).toNat := by decide

/-- The block with a REQBUF that holds no terminator (R266). -/
def endless : State := { ready with mem := (List.range 64).map (fun k => (0x40 + k, 0x41)) }

set_option maxRecDepth 10000 in
theorem witness_StartRejections :
    startCode .xbyte base = .notReady ∧ startCode .xchg { ready with smaxresp := 65 } = .range ∧
    startCode .xnoack { base with sreqlen := 65 } = .range ∧ startCode .bcast endless = .idLen ∧
    base.busy = false ∧ endless.busy = false := by decide

theorem witness_WaitackStart :
    ready.busy = false ∧ ready.stimeout = 0 ∧ ready.ack = false ∧
    ({ ready with stimeout := 1 } : State).stimeout ≠ 0 ∧
    ({ ready with ack := true } : State).ack = true := by decide

theorem witness_XbyteStart :
    ready.busy = false ∧ Configured ready.xc ∧ ready.xc.txh = none ∧ ready.xc.rxf = [] ∧
    Configured { ready.xc with txh := some 0x01, rxf := [0x41] } := by decide

theorem witness_HostPacketStarts_PollStart_ProbeStart :
    startCode .xchg { ready with sreqlen := 64, smaxresp := 64 } = .noError ∧
    startCode .xnoack { ready with sreqlen := 64 } = .noError ∧ startCode .poll ready = .noError ∧
    startCode .probe ready = .noError ∧ ready.busy = false ∧
    startCode .xnoack { ready with xc := { ready.xc with rxf := [0x41] } } = .noError := by decide

/-- The block with a text of 60 bytes in REQBUF (R266). -/
def longest : State :=
  { ready with
    mem := (List.range 60).map (fun k => (0x40 + k, 0x41)) ++ [(0x7C, 0x00)] }

set_option maxRecDepth 10000 in
theorem witness_BcastStart :
    startCode .bcast longest = .noError ∧ req longest 60 = 0x00 ∧
    (∀ k < 60, req longest k ≠ 0x00) ∧ longest.busy = false ∧
    longest.sarg.getLsbD 0 = false ∧ longest.sarg.getLsbD 1 = false ∧
    (0x01 : Byte).getLsbD 0 = true ∧ (0x02 : Byte).getLsbD 0 = false ∧
    (0x02 : Byte).getLsbD 1 = true := by decide

theorem witness_LoadOfTheShifter :
    ({ ready.xc with txh := some 0x01 } : Xcvr).txh = some 0x01 ∧ ready.xc.sh = none ∧
    ready.xc.txen = true ∧ LineOk ready.xc ∧ ready.xc.txh = none ∧ ¬ LineOk base.xc := by decide

/-- The block at the tick a shift completes, with a FIFO of the given bytes (R172). -/
def completing (rxf : List Byte) : State :=
  { ready with now := 32, xc := { ready.xc with sh := some (0x01, 32), rxf := rxf } }

theorem witness_CompletionOfAShift :
    (completing []).xc.sh = some (0x01, (completing []).now) ∧
    (completing []).xc.rxf.length < (completing []).cfg.rxFifoDepth ∧
    (completing []).xc.rxen = true ∧
    (completing (List.replicate 8 0)).cfg.rxFifoDepth ≤
      (completing (List.replicate 8 0)).xc.rxf.length ∧
    ({ (completing []).xc with rxen := false } : Xcvr).rxen = false ∧
    ∀ b, ready.xc.sh ≠ some (b, ready.now) :=
  ⟨by decide, by decide, by decide, by decide, by decide, by intro b; simp [ready, Xcvr.reset]⟩

theorem witness_AcknowledgeLatch :
    (∃ t, exec (.wrSaddr 5) { base with ack := true } = .next t ∧ t.ack = true) ∧
    ({ base with ack := true } : State).sequencerPhase.ack = true := ⟨⟨_, rfl, rfl⟩, rfl⟩

theorem witness_ManualAcknowledgeClear :
    ready.busy = false ∧ ready.xc.ackie = true ∧
    (merged (.lo 0x10) (ctrlValue ready.xc)).testBit 4 = true ∧
    (merged (.lo 0x10) (ctrlValue ready.xc)).testBit 6 = false ∧
    ∃ t, exec (.wrIstat (.lo 0)) ready.ackClear = .next t :=
  ⟨by decide, by decide, by decide, by decide, _, rfl⟩

/-- The premise `Underway` from facts that can be decided. -/
theorem underway_of {s : State} {c : Cmd} {w : Susp} (hc : s.seq.cur = some c)
    (hw : s.seq.susp = some w) (h : waitsAt c s.st w = true ∧ s.seq.rl0 ≤ 64 ∧ s.seq.cap ≤ 64 ∧
      s.seq.n ≤ 64 ∧
      (s.st = .xfer → s.seq.n < s.seq.cap ∧ s.seq.i = min s.seq.rl0 (s.seq.n + 1) ∧
        s.seq.i + s.seq.rl = s.seq.rl0) ∧
      (s.st = .dataAck → s.seq.n ≤ s.seq.cap ∧ s.seq.i = min s.seq.rl0 s.seq.n ∧
        s.seq.i + s.seq.rl = s.seq.rl0) ∧
      (s.st = .naByte ∨ s.st = .naIbd → s.seq.i + s.seq.rl = s.seq.rl0) ∧
      (-9 ≤ s.seq.rem ∧ s.seq.rem ≤ 65535) ∧ (s.st.polls = true → 0 < s.seq.rem)) : Underway s := by
  obtain ⟨ha, h1, h2, h3, h4, h5, h6, h7, h8⟩ := h
  exact ⟨⟨fun _ _ _ => h1, fun _ _ _ => h2, h3, h4, h5, h6, h7, h8⟩, c, w, hc, hw, ha⟩

/-- The block suspended until a tick in a state of a command, on port 1 of the loop. -/
def suspendedIn (st : SeqState) (c : Cmd) (t : Tick) : State :=
  { ready with
    busy := true, st := st
    mem := [(0x80, 0x41), (0x81, 0x5A), (0x82, 0x5A), (0x83, 0x5D)]
    seq := { Sequencer.reset with cur := some c, n := 5, loopPort := .port1, susp := some (.untilTick t) } }

theorem witness_EndOfADelay :
    (suspendedIn .pre .xchg 0).st = .pre ∧ (suspendedIn .pre .xchg 0).now = 0 ∧
    (suspendedIn .pre .xchg 0).seq.susp = some (.untilTick 0) ∧ Underway (suspendedIn .pre .xchg 0) ∧
    (suspendedIn .settle .probe 0).st = .settle ∧ Underway (suspendedIn .settle .probe 0) ∧
    (suspendedIn .trail .bcast 0).st = .trail ∧ Underway (suspendedIn .trail .bcast 0) ∧
    (suspendedIn .naIbd .xnoack 0).st = .naIbd ∧ Underway (suspendedIn .naIbd .xnoack 0) ∧
    (suspendedIn .pre .xchg 1).seq.susp = some (.untilTick 1) ∧ Underway (suspendedIn .pre .xchg 1) :=
  ⟨rfl, rfl, rfl, underway_of rfl rfl (by decide), rfl, underway_of rfl rfl (by decide), rfl,
    underway_of rfl rfl (by decide), rfl, underway_of rfl rfl (by decide), rfl, underway_of rfl rfl (by decide)⟩

/-- The block at a wait of a byte exchange, in a state of a command, with a held byte and a FIFO, its
count and its request index at the last positions (R202). -/
def exchanging (st : SeqState) (c : Cmd) (w : Susp) (held : Option Byte) (rxf : List Byte) : State :=
  { ready with
    busy := true, st := st
    xc := { ready.xc with txh := held, rxf := rxf }
    seq := { Sequencer.reset with
      cur := some c, i := 64, rl0 := 64, n := 63, cap := 64, susp := some w } }

theorem witness_WaitsOfAByteExchange_TXRDY :
    (exchanging .addr .xchg .txReady (some 1) []).xc.txh.isSome = true ∧
    Underway (exchanging .addr .xchg .txReady (some 1) []) ∧
    (exchanging .naByte .xnoack .txReady none []).seq.susp = some .txReady ∧
    (exchanging .naByte .xnoack .txReady none []).xc.txh = none ∧
    Underway (exchanging .naByte .xnoack .txReady none []) :=
  ⟨rfl, underway_of rfl rfl (by decide), rfl, rfl, underway_of rfl rfl (by decide)⟩

theorem witness_WaitsOfAByteExchange_RXRDY :
    (exchanging .xfer .xchg .rxReady none []).xc.rxf = [] ∧
    Underway (exchanging .xfer .xchg .rxReady none []) ∧
    (exchanging .xfer .xchg .rxReady none [0x5A]).seq.susp = some .rxReady ∧
    (exchanging .xfer .xchg .rxReady none [0x5A]).xc.rxf = 0x5A :: [] ∧
    Underway (exchanging .xfer .xchg .rxReady none [0x5A]) ∧
    Underway (exchanging .addr .xchg .rxReady none [0x5A]) ∧
    Underway (exchanging .byteCmd .xbyte .rxReady none [0x5A]) ∧
    Underway (exchanging .naByte .bcast .rxReady none [0x5A]) :=
  ⟨rfl, underway_of rfl rfl (by decide), rfl, rfl, underway_of rfl rfl (by decide),
    underway_of rfl rfl (by decide), underway_of rfl rfl (by decide), underway_of rfl rfl (by decide)⟩

/-- The block at a check of the waiter, with a budget, a count at its capacity or below, and a pulse
latched or not (R203). -/
def checking (st : SeqState) (c : Cmd) (rem : Int) (n : Nat) (ack : Bool) : State :=
  { ready with
    busy := true, st := st, ack := ack
    seq := { Sequencer.reset with
      cur := some c, n := n, i := n, rl := 64 - n, cap := 64, rl0 := 64, rem := rem
      susp := some (.untilTick 0) } }

theorem witness_WaiterChecks :
    (checking .waitCmd .waitack 11 0 true).seq.susp =
      some (.untilTick (checking .waitCmd .waitack 11 0 true).now) ∧
    0 < (checking .waitCmd .waitack 11 0 true).seq.rem - 10 ∧
    (checking .waitCmd .waitack 10 0 true).seq.rem - 10 ≤ 0 ∧
    (checking .waitCmd .waitack 11 0 true).st = .waitCmd ∧
    (checking .addrAck .xchg 11 0 true).st = .addrAck ∧
    (checking .dataAck .xchg 11 64 true).st = .dataAck ∧
    (checking .dataAck .xchg 11 64 true).ack = true ∧
    (checking .dataAck .xchg 11 63 false).ack = false := by decide

theorem witness_WaiterChecks_Underway :
    Underway (checking .waitCmd .waitack 11 0 true) ∧ Underway (checking .waitCmd .waitack 10 0 true) ∧
    Underway (checking .addrAck .xchg 11 0 true) ∧ Underway (checking .addrAck .xchg 10 0 true) ∧
    Underway (checking .dataAck .xchg 11 64 true) ∧ Underway (checking .dataAck .xchg 11 63 false) ∧
    Underway (checking .dataAck .xchg 10 64 true) := by
  refine ⟨?_, ?_, ?_, ?_, ?_, ?_, ?_⟩ <;> exact underway_of rfl rfl (by decide)

theorem witness_EndOfAPacket :
    (suspendedIn .post .poll 0).st = .post ∧ (suspendedIn .post .poll 0).now = 0 ∧
    (suspendedIn .post .poll 0).seq.susp = some (.untilTick 0) ∧
    (suspendedIn .post .poll 0).seq.cur = some .poll ∧
    (suspendedIn .post .xchg 0).seq.cur = some .xchg ∧
    (suspendedIn .post .xnoack 0).seq.cur = some .xnoack ∧
    resp (suspendedIn .post .poll 0) 1 = (suspendedIn .post .poll 0).cfg.markPad := by decide

/-- The same on a port of the loop, with a port mask (R263, R265). -/
def endingOn (c : Cmd) (p : Port) (mask : BitVec 2) : State :=
  { suspendedIn .post c 0 with
    seq := { (suspendedIn .post c 0).seq with loopPort := p, mask := mask } }

theorem witness_EndOfProbeAndBcast :
    (endingOn .probe .port0 0).st = .post ∧ (endingOn .probe .port0 0).now = 0 ∧
    (endingOn .probe .port0 0).seq.susp = some (.untilTick 0) ∧
    (endingOn .probe .port0 0).seq.cur = some .probe ∧ (endingOn .probe .port0 0).seq.n = 5 ∧
    (endingOn .probe .port0 0).seq.loopPort = .port0 ∧ (endingOn .probe .port1 0).seq.loopPort = .port1 ∧
    resp (endingOn .probe .port0 0) 2 = (endingOn .probe .port0 0).cfg.markC2 ∧
    resp (endingOn .probe .port0 0) 3 = (endingOn .probe .port0 0).cfg.markC3 ∧
    (endingOn .bcast .port0 0b11).seq.cur = some .bcast ∧
    (endingOn .bcast .port0 0b11).seq.loopPort = .port0 ∧
    (endingOn .bcast .port0 0b11).seq.mask.getLsbD 1 = true ∧
    (endingOn .bcast .port0 0b01).seq.mask.getLsbD 1 = false ∧
    (endingOn .bcast .port1 0b11).seq.loopPort = .port1 := by decide

theorem witness_ButtonInversion :
    4 ≤ (suspendedIn .post .poll 0).seq.n ∧
    resp (suspendedIn .post .poll 0) 1 = (suspendedIn .post .poll 0).cfg.markPad := by decide

theorem witness_TicksOfXchgAndPollStoreAtCountedPositions :
    settling.Inv ∧ settling.seq.cur = some .xchg ∧ polling.Inv ∧ polling.seq.cur = some .waitack ∧
    base.Inv ∧ base.seq.cur = none :=
  ⟨witness_InvOfARunningExchange, by decide, witness_InvOfAWaiter, by decide,
    witness_InvOfAnIdleState, by decide⟩

/-- The block in PROBE's exchange on port 0, with two bytes stored and the third a tick away (R263). -/
def probed : State :=
  { ready with
    now := 20, busy := true, st := .xfer, dev := [⟨false, 0x5A⟩]
    xc := { ready.xc with attn := true, sh := some (0x00, 21) }
    seq := { Sequencer.reset with
      cur := some .probe, rl0 := 5, cap := 5, n := 2, i := 3, rl := 2, src := .pkt
      susp := some .rxReady } }

theorem witness_InvOfAProbe : probed.Inv where
  params := by decide
  memory := by decide
  xcvr := ⟨by rintro b t ⟨⟩; decide, by decide, by decide⟩
  seq := ⟨by decide, by decide, by rintro c ⟨⟩; exact ⟨rfl, rfl, by decide, _, rfl, rfl⟩,
    by rintro t ⟨⟩, by rintro ⟨⟩, by decide⟩
  count := ⟨by rintro c ⟨⟩; decide, by rintro c ⟨⟩; decide, by decide, by decide, by decide,
    by decide, by decide, by decide⟩
  attn := ⟨by decide, by decide⟩

theorem witness_TicksOfAnExchangeStoreTheReceivedBytes :
    settling.Inv ∧ settling.seq.cur = some .xchg ∧ probed.Inv ∧ probed.seq.cur = some .probe ∧
    probed.seq.n ≤ 2 ∧ 2 < probed.tick.seq.n ∧ 0x82 ≠ 0x80 + 3 :=
  ⟨witness_InvOfARunningExchange, by decide, witness_InvOfAProbe, by decide, by decide, by decide,
    by decide⟩

/-- A device script without a pulse meets the premise `noPulse` over its length (R28). -/
theorem noPulse_replicate (k : Nat) (s : State) (h : s.dev = List.replicate k ⟨false, 0xFF⟩) :
    noPulse k s := by
  intro j hj
  exact ⟨⟨false, 0xFF⟩, by simp [h, hj], rfl⟩

theorem witness_WaitWithoutAPulse :
    let s := { ready with stimeout := 11, dev := List.replicate 20 ⟨false, 0xFF⟩ }
    s.busy = false ∧ s.ack = false ∧ (∃ t, exec .waitack s = .next t) ∧
      noPulse (waitTicks s.stimeout.toNat) s :=
  ⟨by decide, by decide, ⟨_, rfl⟩, noPulse_replicate 20 _ rfl⟩

theorem witness_WaitWithAPulse :
    let s := { ready with
      stimeout := 20, dev := List.replicate 9 ⟨false, 0xFF⟩ ++ [⟨true, 0xFF⟩] }
    s.busy = false ∧ s.ack = false ∧ s.xc.ackie = true ∧ s.xc.irq = false ∧
      (∃ t, exec .waitack s = .next t) ∧ waitTicks 10 + 10 ≤ waitTicks s.stimeout.toNat ∧
      noPulse (10 - 1) s ∧ ∃ d, s.dev[10 - 1]? = some d ∧ d.ack = true := by
  refine ⟨by decide, by decide, by decide, by decide, ⟨_, rfl⟩, by decide, ?_, ⟨_, rfl, rfl⟩⟩
  intro j hj
  have hj' : j < 9 := hj
  interval_cases j <;> exact ⟨_, rfl, rfl⟩

theorem witness_ExchangeWithAnAbsentDevice :
    let s := { ready with dev := List.replicate 362 ⟨false, 0xFF⟩ }
    s.busy = false ∧ startCode .xchg s = .noError ∧ s.cfg.Ok ∧ s.clean ∧
      (∃ t, exec .xchg s = .next t) ∧ noPulse (absentTicks s.cfg) s :=
  ⟨by decide, by decide, by decide, ⟨by decide, by decide⟩, ⟨_, rfl⟩, noPulse_replicate 362 _ rfl⟩

theorem witness_SendTakesAFixedTime :
    let s := { ready with sreqlen := 64 }
    s.busy = false ∧ startCode .xnoack s = .noError ∧ s.cfg.Ok ∧ s.clean ∧
      ∃ t, exec .xnoack s = .next t :=
  ⟨by decide, by decide, by decide, ⟨by decide, by decide⟩, _, rfl⟩

theorem witness_InvOfAConfiguredState : ready.Inv where
  params := by decide
  memory := by decide
  xcvr := ⟨by rintro b t ⟨⟩, by decide, by decide⟩
  seq := ⟨by decide, by decide, by rintro c ⟨⟩, by rintro t ⟨⟩, by rintro ⟨⟩, by rintro ⟨⟩⟩
  count := ⟨by rintro c ⟨⟩, by rintro c ⟨⟩, by decide, by decide, by decide, by decide, by decide,
    by decide⟩
  attn := ⟨by decide, by decide⟩

theorem witness_EveryCommandEnds :
    ready.Inv ∧ ready.busy = false ∧ startCode .poll ready = .noError ∧
      (∃ t, exec (commandInstr .poll) ready = .next t) ∧ settling.Inv ∧ settling.busy = true :=
  ⟨witness_InvOfAConfiguredState, by decide, by decide, ⟨_, rfl⟩, witness_InvOfARunningExchange,
    by decide⟩

end Sys2Proof.Tests
end

section
/-! PROOFS. The host port's reads, and its writes that start nothing: the operand forms and the register
words as the statements write them, the transactions' rows, one equation for each row of the port, and
the obligations settled from these. -/

namespace Sys2Proof.HostPort

open Sys2Proof.Machine Sys2Proof.Claims

/-! ### Operand forms and register words, as the statements write them -/

/-- What the model returns of a lane is the statements' `lane` of the register's value (R120). -/
theorem readLane_eq_lane (l : RLane) (x : Half) : readLane l x = lane l x.toNat := by
  have hx := x.isLt
  apply BitVec.eq_of_toNat_eq
  rw [readLane_toNat]
  cases l <;> simp only [lane, BitVec.toNat_ofNat] <;> omega

/-- The model's merge is the statements' `merged` value (R95). -/
theorem merge_eq_merged (l : WLane) (x : Half) : merge l x = BitVec.ofNat 16 (merged l x.toNat) := by
  apply BitVec.eq_of_toNat_eq
  have hv := (merge l x).isLt
  rw [merge_toNat] at hv ⊢
  cases l <;> simp only [merged, BitVec.toNat_ofNat] at hv ⊢ <;> omega

/-- A byte written in the low half of a write value is read back from it (R91). -/
@[simp] theorem loByte_setWidth (b : Byte) : loByte (b.setWidth 16) = b := by
  apply BitVec.eq_of_toNat_eq
  have hb := b.isLt
  rw [loByte_toNat, BitVec.toNat_setWidth]
  omega

/-- A bit of the high byte is the bit eight places up. -/
theorem hiByte_getLsbD (h : Half) {k : Nat} (hk : k < 8) :
    (hiByte h).getLsbD k = h.toNat.testBit (8 + k) := by
  simp only [hiByte, BitVec.getLsbD_setWidth, BitVec.getLsbD_ushiftRight, hk, decide_true,
    Bool.true_and]
  rfl

theorem ctrlWord_value (x : Xcvr) : (ctrlWord x).toNat = ctrlValue x := by
  rw [ctrlWord_toNat, ctrlValue]
  cases x.port <;> rfl

theorem stateBits_toNat (st : SeqState) : (stateBits st).toNat = stateCode st := by
  cases st <;> rfl

theorem errBits_toNat (e : ErrCode) : (errBits e).toNat = errCode e := by
  cases e <;> rfl

theorem sstatWord_value (s : State) : (sstatWord s).toNat = sstatValue s := by
  rw [sstatWord_toNat, stateBits_toNat, errBits_toNat, sstatValue]

/-! ### Transactions and their rows (R91, R92) -/

theorem decode_rd8 (off : Byte) : decode (rd8 off) = .ok (decodeTxn ⟨false, false, off, 0⟩) := rfl

theorem decode_rd16 (off : Byte) : decode (rd16 off) = .ok (decodeTxn ⟨false, true, off, 0⟩) := rfl

theorem decode_wr8 (off b : Byte) :
    decode (wr8 off b) = .ok (decodeTxn ⟨true, false, off, b.setWidth 16⟩) := rfl

/-- The three reads of a register follow from the rows that its three codes select. -/
theorem readsAt_of_rows {off : Byte} {i : RLane → Instr}
    (hlo : decodeTxn ⟨false, false, off, 0⟩ = i .lo)
    (hhi : decodeTxn ⟨false, false, off + 1, 0⟩ = i .hi)
    (hwhole : decodeTxn ⟨false, true, off, 0⟩ = i .whole) : readsAt off i := by
  unfold readsAt
  rw [decode_rd8, decode_rd8, decode_rd16, hlo, hhi, hwhole]
  exact ⟨rfl, rfl, rfl⟩

/-- The first row of the table that a code matches. -/
def rowOf (c : Code) : Option Row := rows.find? fun r => c &&& r.mask = r.pattern

theorem decodeRows_of_find (t : Txn) {r : Row} {rs : List Row}
    (h : rs.find? (fun r => t.code &&& r.mask = r.pattern) = some r) :
    decodeRows t rs = r.build t := by
  induction rs with
  | nil => cases h
  | cons q qs ih =>
    rw [decodeRows]
    by_cases hq : t.code &&& q.mask = q.pattern
    · obtain rfl : q = r := by simpa [hq] using h
      rw [if_pos hq]
    · rw [if_neg hq]
      exact ih (by simpa [hq] using h)

/-- The decoder builds the instruction of the row that the code selects, whatever the data (R92). -/
theorem decodeTxn_of_rowOf (t : Txn) {r : Row} (h : rowOf t.code = some r) :
    decodeTxn t = r.build t := decodeRows_of_find t h

theorem access8_of_write {t : Txn} (h : t.w = true) : t.access8 = .write (loByte t.wv) := if_pos h

/-- An 8-bit write carries its byte into the instruction of the row that its code selects. -/
theorem decode_wr8_of_row {off : Byte} {i : Byte → Instr} {r : Row} (b : Byte)
    (h : rowOf (Txn.code ⟨true, false, off, 0⟩) = some r)
    (hi : ∀ t : Txn, t.w = true → r.build t = i (loByte t.wv)) :
    decode (wr8 off b) = .ok (i b) := by
  rw [decode_wr8, decodeTxn_of_rowOf ⟨true, false, off, b.setWidth 16⟩ h, hi _ rfl, loByte_setWidth]

/-! ### What the shared operations answer -/

/-- A read of a lane of a register whose word stands for `v` (R120). -/
theorem reply_readLane (s : State) (l : RLane) {x : Half} {v : Nat} (h : x.toNat = v) :
    s.reply (readLane l x) = .next { s with rdata := lane l v } := by
  rw [reply_eq, readLane_eq_lane, h]

/-- A read of a byte register, zero-extended (R120). -/
theorem reply_byte (s : State) (b : Byte) :
    s.reply (b.setWidth 16) = .next { s with rdata := BitVec.ofNat 16 b.toNat } := by
  rw [reply_eq, BitVec.ofNat_toNat]

/-! ### The rows of DATA, SSTAT and STIMEOUT -/

theorem exec_rdData_busy (w : Width) {s : State} (hb : s.busy = true) :
    exec (.rdData w) s = .next { s with werr := true, rdata := 0 } := by
  change execRdData w s = _
  rw [execRdData, if_pos hb]
  rfl

theorem exec_rdData_empty (w : Width) {s : State} (hb : s.busy = false) (hf : s.xc.rxf = []) :
    exec (.rdData w) s = .next { s with aerr := true, rdata := 0 } := by
  change execRdData w s = _
  simp only [execRdData, hb, hf, badRead_eq, Bool.false_eq_true, if_false]

theorem exec_rdData_pop (w : Width) {s : State} {b : Byte} {rest : List Byte}
    (hb : s.busy = false) (hf : s.xc.rxf = b :: rest) :
    exec (.rdData w) s =
      .next { s with xc := { s.xc with rxf := rest }, rdata := BitVec.ofNat 16 b.toNat } := by
  change execRdData w s = _
  simp only [execRdData, hb, hf, reply_byte, Bool.false_eq_true, if_false]

/-- A write of the low byte of SSTAT has no high byte to act by (R138). -/
theorem exec_wrSstat_low (b : Byte) (s : State) : exec (.wrSstat (.lo b)) s = .next s := rfl

/-- A written high byte of SSTAT clears the error bits it names, BUSY or not (R138). -/
theorem exec_wrSstat_high {l : WLane} {b : Byte} (h : laneHigh l = some b) (s : State) :
    exec (.wrSstat l) s =
      .next { s with werr := s.werr && !b.getLsbD 0, aerr := s.aerr && !b.getLsbD 1 } := by
  change execWrSstat l s = _
  rw [execWrSstat, h]

theorem exec_wrStimeout (l : WLane) (s : State) :
    exec (.wrStimeout l) s = .next (if s.busy then { s with werr := true }
      else { s with stimeout := BitVec.ofNat 16 (merged l s.stimeout.toNat) }) := by
  rw [← merge_eq_merged]
  exact wrote_eq s { s with stimeout := merge l s.stimeout }

/-! ### The rows without effect, and those that are not accepted -/

/-- The three RZ rows are one operation (R124). -/
theorem exec_rz {i : Access8 → Instr} (hi : i = .rz01 ∨ i = .rz21 ∨ i = .rz29) (a : Access8)
    (s : State) : exec (i a) s = s.rzAccess a := by
  rcases hi with rfl | rfl | rfl <;> rfl

/-- Every read that is not accepted is the one answer (R156 to R158). -/
theorem exec_of_unacceptedRead {i : Instr} (h : unacceptedRead i = true) (s : State) :
    exec i s = s.badRead := by
  unfold unacceptedRead at h
  split at h
  case h_1 => rfl -- MISALIGN16
  case h_2 => rfl -- WIDE.24
  case h_3 => rfl -- WIDE.26
  case h_4 => rfl -- UNMAPPED
  case h_5 => cases h

/-- Every write that is not accepted is the one answer (R126, R156 to R158). -/
theorem exec_of_unacceptedWrite {i : Instr} (h : unacceptedWrite i = true) (s : State) :
    exec i s = s.badWrite := by
  unfold unacceptedWrite at h
  split at h
  case h_9 => cases h
  all_goals rfl

/-! ### The obligations -/

/-- Settles O22: every such instruction is the refused read or the refused write. -/
theorem unacceptedAccesses : Obligations.UnacceptedAccesses := by
  intro i s
  constructor
  · intro h
    rw [exec_of_unacceptedRead h, badRead_eq]
  · intro h
    rw [exec_of_unacceptedWrite h, badWrite_eq]

/-- Settles O17: the rows of the codes, then the number each register's word stands for. -/
theorem transceiverRegisterReads : Obligations.TransceiverRegisterReads := by
  refine ⟨readsAt_of_rows rfl rfl rfl, readsAt_of_rows rfl rfl rfl, readsAt_of_rows rfl rfl rfl,
    readsAt_of_rows rfl rfl rfl, readsAt_of_rows rfl rfl rfl, fun l s => ⟨?stat, ?ctrl, ?mode,
    ?baud, ?istat⟩⟩
  case stat => exact reply_readLane s l (statWord_toNat s.xc)
  case ctrl => exact reply_readLane s l (ctrlWord_value s.xc)
  case mode => exact reply_readLane s l (modeWord_toNat s.xc)
  case baud => exact reply_readLane s l rfl
  case istat => exact reply_readLane s l (istatWord_toNat s.ack)

/-- Settles O18: the rows of the codes, then the byte registers and the three of 16 bits. -/
theorem sequencerRegisterReads : Obligations.SequencerRegisterReads := by
  refine ⟨rfl, rfl, rfl, rfl, rfl, rfl, rfl, rfl, readsAt_of_rows rfl rfl rfl,
    readsAt_of_rows rfl rfl rfl, readsAt_of_rows rfl rfl rfl, fun l w s => ⟨?saddr, ?sarg, ?sreqlen,
    ?smaxresp, ?sresplen, ?stimeout, ?scmd, ?sstat, ?sresult⟩⟩
  case saddr => exact reply_byte s s.saddr
  case sarg => exact reply_byte s s.sarg
  case sreqlen => exact reply_byte s s.sreqlen
  case smaxresp => exact reply_byte s s.smaxresp
  case sresplen => exact reply_byte s s.sresplen
  case stimeout => exact reply_readLane s l rfl
  case scmd => exact reply_byte s s.scmd
  case sstat => exact reply_readLane s l (sstatWord_value s)
  case sresult => exact reply_readLane s l rfl

/-- Settles O20: the three cases of the row, whose conditions exclude each other. -/
theorem dataReads : Obligations.DataReads :=
  ⟨rfl, rfl, fun w _ => ⟨fun hb _ _ hf => exec_rdData_pop w hb hf,
    fun hb hf => exec_rdData_empty w hb hf, fun hb => exec_rdData_busy w hb⟩⟩

/-- Settles O21: the rows of the six codes, then the one operation behind them. -/
theorem rzBytes : Obligations.RzBytes := by
  refine ⟨rfl, rfl, rfl, fun b => ⟨?rz01, ?rz21, ?rz29⟩, fun b s i hi => ⟨?read, ?write⟩⟩
  case rz01 =>
    exact decode_wr8_of_row (i := (.rz01 <| .write ·)) b rfl fun _ h =>
      congrArg Instr.rz01 (access8_of_write h)
  case rz21 =>
    exact decode_wr8_of_row (i := (.rz21 <| .write ·)) b rfl fun _ h =>
      congrArg Instr.rz21 (access8_of_write h)
  case rz29 =>
    exact decode_wr8_of_row (i := (.rz29 <| .write ·)) b rfl fun _ h =>
      congrArg Instr.rz29 (access8_of_write h)
  case read => rw [exec_rz hi, rzAccess_eq]
  case write => rw [exec_rz hi, rzAccess_eq]

/-- Settles O23: each write is a guarded write of its one field. -/
theorem parameterWrites : Obligations.ParameterWrites := by
  intro b l s orWerr
  refine ⟨?row, ?saddr, ?sarg, ?sreqlen, ?smaxresp, ?stimeout⟩
  case row => exact decode_wr8_of_row b rfl fun _ _ => rfl
  case saddr => exact wrote_eq s { s with saddr := b }
  case sarg => exact wrote_eq s { s with sarg := b }
  case sreqlen => exact wrote_eq s { s with sreqlen := b }
  case smaxresp => exact wrote_eq s { s with smaxresp := b }
  case stimeout => exact exec_wrStimeout l s

/-- Settles O27: only a written high byte acts, and in a 16-bit value its bits stand eight places up. -/
theorem sstatWrites : Obligations.SstatWrites := by
  intro b h s
  refine ⟨exec_wrSstat_low b s, exec_wrSstat_high rfl s, ?whole⟩
  case whole =>
    rw [exec_wrSstat_high (b := hiByte h) rfl, hiByte_getLsbD h (by decide),
      hiByte_getLsbD h (by decide)]

end Sys2Proof.HostPort
end

section
/-! PROOFS. The transceiver and the acknowledge latch: what a load leaves unchanged, the completion of a
shift, who can raise ISTAT.ACK, the writes of CTRL and ISTAT, and the obligations settled from these. -/

namespace Sys2Proof.Transceiver

open Sys2Proof.Machine Sys2Proof.Claims

/-! ### What a load and a completion leave unchanged (R171, R172) -/

@[simp] theorem tryLoad_ack (s : State) : s.tryLoad.ack = s.ack := by
  obtain ⟨h, -⟩ | ⟨b, -, -, -, h⟩ := tryLoad_cases s <;> rw [h]

@[simp] theorem tryLoad_irq (s : State) : s.tryLoad.xc.irq = s.xc.irq := by
  obtain ⟨h, -⟩ | ⟨b, -, -, -, h⟩ := tryLoad_cases s <;> rw [h]

@[simp] theorem tryLoad_rxovr (s : State) : s.tryLoad.xc.rxovr = s.xc.rxovr := by
  obtain ⟨h, -⟩ | ⟨b, -, -, -, h⟩ := tryLoad_cases s <;> rw [h]

@[simp] theorem receive_ack (s : State) (r : Byte) : (s.receive r).ack = s.ack := by
  obtain ⟨-, h⟩ | ⟨-, -, h⟩ | ⟨-, -, h⟩ := receive_cases s r <;> rw [h]

@[simp] theorem complete_ack (s : State) (r : Byte) : (s.complete r).ack = s.ack := by
  simp [State.complete]

@[simp] theorem transceiverPhase_ack (s : State) (r : Byte) :
    (s.transceiverPhase r).ack = s.ack := by
  obtain ⟨h, -⟩ | ⟨b, -, h⟩ := transceiverPhase_cases s r <;> rw [h]
  exact complete_ack s r

/-! ### The three fates of a received byte, and the phase around them (R172) -/

theorem receive_kept (s : State) (r : Byte) (hen : s.xc.rxen = true)
    (hroom : s.xc.rxf.length < s.cfg.rxFifoDepth) :
    s.receive r = { s with xc := { s.xc with rxf := s.xc.rxf ++ [r] } } := by
  rw [State.receive, if_pos hen, if_pos hroom]

theorem receive_overrun (s : State) (r : Byte) (hen : s.xc.rxen = true)
    (hfull : s.cfg.rxFifoDepth ≤ s.xc.rxf.length) :
    s.receive r = { s with xc := { s.xc with rxovr := true } } := by
  rw [State.receive, if_pos hen, if_neg (Nat.not_lt.mpr hfull)]

theorem receive_discarded (s : State) (r : Byte) (hen : s.xc.rxen = false) :
    s.receive r = s := by
  simp [State.receive, hen]

/-- At its tick the shift completes: the idle shifter's state receives the byte, and a load is tried. -/
theorem transceiverPhase_completes {s : State} {b : Byte} (r : Byte)
    (h : s.xc.sh = some (b, s.now)) :
    s.transceiverPhase r =
      (State.receive { s with xc := { s.xc with sh := none } } r).tryLoad := by
  obtain ⟨-, hno⟩ | ⟨-, -, hc⟩ := transceiverPhase_cases s r
  · exact absurd h (hno b)
  · exact hc

theorem transceiverPhase_waits {s : State} (r : Byte) (h : ∀ b, s.xc.sh ≠ some (b, s.now)) :
    s.transceiverPhase r = s := by
  obtain ⟨hs, -⟩ | ⟨b, hb, -⟩ := transceiverPhase_cases s r
  · exact hs
  · exact absurd hb (h b)

/-! ### A pulse (R175) -/

theorem ackPhase_pulse (s : State) :
    s.ackPhase true =
      (let u := { s with wire := s.wire ++ [.ack s.now] }
       if s.xc.ackie = true ∧ s.xc.irq = false then
         { u with ack := true, xc := { s.xc with irq := true } }
       else u) := by
  obtain ⟨hp, -⟩ | ⟨-, hno, h⟩ | ⟨-, hyes, h⟩ := ackPhase_cases s true
  · cases hp
  · rw [h, if_neg (by simpa using hno)]
    rfl
  · rw [h, if_pos (by simpa using hyes)]
    rfl

/-- With ACKIE = 1 and STAT.IRQ = 0 a pulse raises both latches. -/
theorem ackPhase_latches {s : State} (hie : s.xc.ackie = true) (hirq : s.xc.irq = false) :
    (s.ackPhase true).ack = true ∧ (s.ackPhase true).xc.irq = true := by
  rw [ackPhase_pulse, if_pos ⟨hie, hirq⟩]
  exact ⟨rfl, rfl⟩

/-! ### The writes of CTRL and ISTAT (R128, R134) -/

/-- A bit of the value a write of CTRL makes, in the statements' numbers (R95). -/
theorem merge_ctrlWord_getLsbD (l : WLane) (x : Xcvr) {k : Nat} (hk : k < 16) :
    (merge l (ctrlWord x)).getLsbD k = (merged l (ctrlValue x)).testBit k := by
  rw [HostPort.merge_eq_merged, HostPort.ctrlWord_value, BitVec.getLsbD_ofNat]
  simp [hk]

theorem exec_wrCtrl_idle (l : WLane) {s : State} (hb : s.busy = false) :
    exec (.wrCtrl l) s = .next (s.writeCtrl (merge l (ctrlWord s.xc))) := wrote_idle hb _

theorem exec_wrIstat_lo_idle (b : Byte) {s : State} (hb : s.busy = false) :
    exec (.wrIstat (.lo b)) s = .next { s with ack := s.ack && b.getLsbD 7 } := wrote_idle hb _

/-- Not even its RESET changes ISTAT.ACK (R177). -/
@[simp] theorem writeCtrl_ack (s : State) (v : Half) : (s.writeCtrl v).ack = s.ack := by
  unfold State.writeCtrl
  cases v.getLsbD 6 <;> cases v.getLsbD 4 <;> simp

/-- ACKCLR without RESET leaves both flags 0: the fields written after it and the load keep them. -/
theorem writeCtrl_ackclr (s : State) {v : Half} (hclr : v.getLsbD 4 = true)
    (hreset : v.getLsbD 6 = false) :
    (s.writeCtrl v).xc.irq = false ∧ (s.writeCtrl v).xc.rxovr = false := by
  simp only [State.writeCtrl, hclr, hreset, Bool.false_eq_true, if_true, if_false]
  exact ⟨tryLoad_irq _, tryLoad_rxovr _⟩

/-! ### No instruction of the host raises ISTAT.ACK (R175) -/

/-- An outcome, reached from `s`, that does not raise ISTAT.ACK. -/
def AckNotRaised (s : State) (o : Result) : Prop := ∀ t, o = .next t → t.ack = true → s.ack = true

theorem ackNotRaised_next {s u : State} (h : u.ack = true → s.ack = true) :
    AckNotRaised s (.next u) := by
  rintro t ⟨⟩
  exact h

/-- The busy filter changes only WERR, so a guarded write raises ISTAT.ACK only if its effect does. -/
theorem ackNotRaised_wrote {s u : State} (h : u.ack = true → s.ack = true) :
    AckNotRaised s (s.wrote u) := by
  intro t ht
  obtain ⟨-, rfl⟩ | ⟨-, rfl⟩ := (wrote_next s u t).mp ht
  · exact id
  · exact h

theorem ackNotRaised_reply (s : State) (x : Half) : AckNotRaised s (s.reply x) :=
  ackNotRaised_next id

theorem ackNotRaised_badRead (s : State) : AckNotRaised s s.badRead := ackNotRaised_next id

theorem ackNotRaised_badWrite (s : State) : AckNotRaised s s.badWrite := ackNotRaised_wrote id

theorem ackNotRaised_badAccess16 (s : State) (a : Access16) : AckNotRaised s (s.badAccess16 a) := by
  cases a with
  | read => exact ackNotRaised_badRead s
  | write => exact ackNotRaised_badWrite s

theorem ackNotRaised_rzAccess (s : State) (a : Access8) : AckNotRaised s (s.rzAccess a) := by
  cases a with
  | read => exact ackNotRaised_reply s 0
  | write => exact ackNotRaised_wrote id

theorem ackNotRaised_unmapped (a : Access) (off : Byte) (s : State) :
    AckNotRaised s (execUnmapped a off s) := by
  cases a with
  | read => exact ackNotRaised_badRead s
  | write => exact ackNotRaised_badWrite s

theorem ackNotRaised_rdData (w : Width) (s : State) : AckNotRaised s (execRdData w s) := by
  unfold execRdData
  split
  · exact ackNotRaised_next id
  · split
    · exact ackNotRaised_badRead s
    · exact ackNotRaised_next id

theorem ackNotRaised_wrData (d : WData) (s : State) : AckNotRaised s (execWrData d s) := by
  obtain ⟨-, h⟩ | ⟨-, -, h⟩ | ⟨-, -, -, h⟩ | ⟨-, -, -, h⟩ := execWrData_cases d s <;> rw [h]
  · exact ackNotRaised_next id
  · rintro t ⟨⟩
  · exact ackNotRaised_next id
  · exact ackNotRaised_next (tryLoad_internal _).ack

theorem ackNotRaised_bufferWrite (s : State) (bufAt : Nat → Nat) (d : WData) (k : BitVec 6) :
    AckNotRaised s (s.wrote (s.bufferWrite bufAt d k)) := by
  cases d with
  | w8 => exact ackNotRaised_wrote id
  | w16 => exact ackNotRaised_wrote id

/-- A write of ISTAT can only clear the latch (R134). -/
theorem ackNotRaised_wrIstat (l : WLane) (s : State) : AckNotRaised s (execWrIstat l s) := by
  unfold execWrIstat
  refine ackNotRaised_wrote ?_
  split
  · exact fun h => (Bool.and_eq_true_iff.mp h).1
  · exact id

/-- A START from the byte written is the block's own doing, rejected or not. -/
theorem start_internal (s : State) (v : Byte) : Internal s (s.start v) := by
  obtain ⟨c, -, h⟩ | ⟨-, h⟩ := start_cases s v <;> rw [h]
  · exact startCommand_internal s c
  · exact reject_internal s .illCmd

theorem ackNotRaised_issue (s : State) (v : Byte) (c : Cmd) : AckNotRaised s (s.issue v c) :=
  ackNotRaised_wrote (startCommand_internal _ c).ack

/-- The rows by what they share: the reads that answer a value, the accesses that are not accepted or
have no effect, the writes of fields, those followed by a load, and those that start a command. -/
theorem exec_ackNotRaised (i : Instr) (s : State) : AckNotRaised s (exec i s) := by
  cases i with
  | rdData w => exact ackNotRaised_rdData w s
  | rdStat | rdMode | rdCtrl | rdBaud | rdIstat | rdScmd | rdSstat | rdSaddr | rdSarg | rdSreqlen
  | rdSmaxresp | rdSresplen | rdSresult | rdStimeout | rdReqbuf | rdRespbuf | rdPkt =>
    exact ackNotRaised_reply s _
  | misalign16 a | wide24 a | wide26 a => exact ackNotRaised_badAccess16 s a
  | unmapped a off => exact ackNotRaised_unmapped a off s
  | wrStat | wrSresplen | wrSresult | wrPkt => exact ackNotRaised_badWrite s
  | rz01 a | rz21 a | rz29 a => exact ackNotRaised_rzAccess s a
  | wrSaddr | wrSarg | wrSreqlen | wrSmaxresp | wrStimeout | reservedCmd =>
    exact ackNotRaised_wrote id
  | wrSstat l =>
    change AckNotRaised s (execWrSstat l s)
    unfold execWrSstat
    split <;> exact ackNotRaised_next id
  | wrIstat l => exact ackNotRaised_wrIstat l s
  | wrReqbuf d k | wrRespbuf d k => exact ackNotRaised_bufferWrite s _ d k
  | wrData d => exact ackNotRaised_wrData d s
  | wrMode | wrBaud => exact ackNotRaised_wrote (tryLoad_internal _).ack
  | wrCtrl => exact ackNotRaised_wrote (writeCtrl_ack s _ ▸ id)
  | wrScmd => exact ackNotRaised_wrote (start_internal _ _).ack
  | init | select | waitack | xbyte | xchg | xnoack | poll | probe | bcast =>
    exact ackNotRaised_issue s _ _

/-! ### The obligations -/

/-- Settles O44: the phase is a receipt by the idle shifter's state and a load, and the receipt has the
three cases. -/
theorem completionOfAShift : Obligations.CompletionOfAShift := by
  refine fun s r => ⟨fun b hb => ?_, fun h => transceiverPhase_waits r h⟩
  rw [transceiverPhase_completes r hb]
  refine ⟨?kept, ?overrun, ?discarded⟩
  case kept => exact fun hen hroom => congrArg State.tryLoad (receive_kept _ r hen hroom)
  case overrun => exact fun hen hfull => congrArg State.tryLoad (receive_overrun _ r hen hfull)
  case discarded => exact fun hen => congrArg State.tryLoad (receive_discarded _ r hen)

/-- Settles O45: the pulse's equation, then for each other phase and the host that it cannot raise the
latch. -/
theorem acknowledgeLatch : Obligations.AcknowledgeLatch := fun s =>
  ⟨rfl, ackPhase_pulse s, transceiverPhase_ack s, (sequencerPhase_internal s).ack,
    fun i => exec_ackNotRaised i s, rfl⟩

/-- Settles O46: the operation, the write of CTRL that runs it, and the pulse after both clears. -/
theorem manualAcknowledgeClear : Obligations.ManualAcknowledgeClear := by
  refine fun s => ⟨rfl, ?write, ?rearmed⟩
  case write =>
    intro l hb hclr hreset
    rw [← merge_ctrlWord_getLsbD l s.xc (by decide)] at hclr hreset
    obtain ⟨hirq, hovr⟩ := writeCtrl_ackclr s hclr hreset
    exact ⟨_, exec_wrCtrl_idle l hb, hirq, hovr, writeCtrl_ack s _⟩
  case rearmed =>
    intro hie t ht hb
    obtain rfl : { s.ackClear with ack := s.ackClear.ack && (0 : Byte).getLsbD 7 } = t := by
      rw [exec_wrIstat_lo_idle 0 (s := s.ackClear) hb] at ht
      injection ht
    exact ⟨Bool.and_false _, ackPhase_latches hie rfl⟩

end Sys2Proof.Transceiver
end

section
/-! PROOFS. The sequencer primitives: what the START of a command answers an idle host, the commands that
end inside their START, the reserved values, the flush, and the obligations settled from these. -/

namespace Sys2Proof.Primitives

open Sys2Proof.Machine Sys2Proof.Claims

/-! ### The START of a command, from an idle state (R136, R200) -/

/-- The latched port and mask operands are those of the statements (R94). -/
theorem accept_eq_accepted (s : State) (c : Cmd) :
    State.accept { s with scmd := commandByte c } c = accepted s c := by
  simp only [State.accept, accepted, portOperand, portOfBit, maskOperand, BitVec.ofNat_toNat]

theorem exec_commandInstr (c : Cmd) (s : State) :
    exec (commandInstr c) s = s.issue (commandByte c) c := by
  cases c <;> rfl

/-- With no cause to reject it, an idle START is the acceptance and the body's first actions. -/
theorem exec_commandInstr_accepted {c : Cmd} {s : State} (hb : s.busy = false)
    (h : State.operandError { s with scmd := commandByte c } c = .noError) :
    exec (commandInstr c) s = .next ((accepted s c).launch c) := by
  obtain ⟨hne, -⟩ | ⟨-, hstart⟩ := startCommand_cases { s with scmd := commandByte c } c
  · exact absurd h hne
  · rw [exec_commandInstr, State.issue, wrote_idle hb, hstart, accept_eq_accepted]

/-- Every cause of a rejection concerns a bus command, so the other commands always start (R200). -/
theorem operandError_of_not_bus {c : Cmd} (h : c.bus = false) (s : State) :
    s.operandError c = .noError := by
  cases c with
  | init | select | waitack => simp [State.operandError, Cmd.bus]
  | xbyte | xchg | xnoack | poll | probe | bcast => cases h

/-! ### Attention as INIT and SELECT drive it (R26, R174) -/

/-- Deasserting attention records the fall of the selected port's line and nothing else, whichever port
is selected next. -/
theorem attnEvents_deassert (now : Tick) (b : Bool) (p q : Port) :
    attnEvents now b p false q = if b then [.attn now p false] else [] := by
  cases b <;> cases p <;> rfl

/-- A new port moves asserted attention, falling line first. -/
theorem driveAttn_eq_moved (s : State) (p : Port) : s.driveAttn s.xc.attn p = moved s p := by
  rw [State.driveAttn, moved]
  congr 1
  cases ha : s.xc.attn with
  | false => simp [attnEvents_deassert]
  | true =>
    by_cases hp : s.xc.port = p
    · simp [hp]
    · simp [hp, attnEvents_move]

/-! ### INIT (R206) -/

/-- The transceiver as INIT leaves it. -/
def initialXcvr (p : Params) : Xcvr :=
  { Xcvr.reset with
    txen := true
    rxen := true
    ackie := true
    chlen := 3
    mult := 1
    baud := BitVec.ofNat 16 (p.sysclkHz / 250000) }

/-- The state an accepted INIT ends in. -/
def initialised (s : State) : State :=
  ended { accepted s .init with
    xc := initialXcvr s.cfg
    wire := s.wire ++ (if s.xc.attn then [.attn s.now s.xc.port false] else []) }

theorem initXcvr_eq (s : State) :
    s.initXcvr = { s with
      xc := initialXcvr s.cfg
      wire := s.wire ++ (if s.xc.attn then [.attn s.now s.xc.port false] else []) } := by
  rw [← attnEvents_deassert s.now s.xc.attn s.xc.port .port0]
  rfl

theorem launch_init (s : State) : s.launch .init = ended s.initXcvr := rfl

theorem exec_init_idle {s : State} (hb : s.busy = false) : exec .init s = .next (initialised s) := by
  have hexec := exec_commandInstr_accepted (c := .init) hb (operandError_of_not_bus rfl _)
  rw [launch_init, initXcvr_eq] at hexec
  exact hexec

/-- INIT leaves attention low and the operands latched, so a second INIT finds nothing to change. -/
theorem initialised_initialised (s : State) : initialised (initialised s) = initialised s := by
  have hwire : (initialised (initialised s)).wire = (initialised s).wire := List.append_nil _
  calc initialised (initialised s)
    _ = { initialised s with wire := (initialised (initialised s)).wire } := rfl
    _ = initialised s := by rw [hwire]

/-! ### SELECT (R207) -/

theorem launch_select (s : State) :
    s.launch .select = ended (s.driveAttn s.xc.attn s.seq.port) := rfl

theorem exec_select_idle {s : State} (hb : s.busy = false) :
    exec .select s =
      .next (ended (moved (accepted s .select) (if s.sarg.getLsbD 0 then .port1 else .port0))) := by
  have hexec := exec_commandInstr_accepted (c := .select) hb (operandError_of_not_bus rfl _)
  rw [launch_select, driveAttn_eq_moved] at hexec
  exact hexec

/-! ### The reserved values (R93, R210) -/

/-- The nine values that `cmdOfByte` and `decodeCmd8` name lie outside the reserved ranges. -/
theorem decodeCmd8_reserved {v : Byte} (h : reservedCommand v = true) :
    decodeCmd8 v = .reservedCmd v := by
  unfold decodeCmd8
  split
  case h_10 => rfl
  all_goals next hv => simp [reservedCommand, hv] at h

theorem cmdOfByte_reserved {v : Byte} (h : reservedCommand v = true) : cmdOfByte v = none := by
  unfold cmdOfByte
  split
  case h_10 => rfl
  all_goals next hv => simp [reservedCommand, hv] at h

theorem reservedCommand_iff (v : Byte) :
    reservedCommand v = true ↔
      v.toNat = 0x00 ∨ (0x07 ≤ v.toNat ∧ v.toNat ≤ 0x0F) ∨ 0x13 ≤ v.toNat := by
  simp [reservedCommand, or_assoc]

theorem exec_reservedCmd_idle (v : Byte) {s : State} (hb : s.busy = false) :
    exec (.reservedCmd v) s = .next { s with scmd := v, err := .illCmd, done := true } :=
  wrote_idle hb _

/-- The command byte of a write of SCMD is its low byte, at either width (R136). -/
theorem exec_wrScmd_idle (d : WData) {s : State} (hb : s.busy = false) :
    exec (.wrScmd d) s = .next (State.start { s with scmd := dataLow d } (dataLow d)) :=
  wrote_idle hb _

theorem start_reserved {v : Byte} (h : reservedCommand v = true) (s : State) :
    s.start v = s.reject .illCmd := by
  obtain ⟨c, hc, -⟩ | ⟨-, hstart⟩ := start_cases s v
  · rw [cmdOfByte_reserved h] at hc
    cases hc
  · exact hstart

theorem loByte_eq_ofNat (h : Half) : loByte h = BitVec.ofNat 8 h.toNat := by
  rw [loByte, BitVec.ofNat_toNat]

/-! ### The obligations -/

/-- Settles O35: INIT's end state and its registers' values, then the same state once more. -/
theorem initConfiguresTheTransceiver : Obligations.InitConfiguresTheTransceiver := by
  intro s hb
  refine ⟨initialised s, exec_init_idle hb, rfl, rfl, rfl, rfl, ?again⟩
  case again => rw [exec_init_idle rfl, initialised_initialised]

/-- Settles O36: the acceptance, the move of the port and the end, in one START. -/
theorem selectSetsThePort : Obligations.SelectSetsThePort := fun _ hb => exec_select_idle hb

/-- Settles O33: the command line and the write of SCMD end in the one rejection. -/
theorem reservedCommandIsRejected : Obligations.ReservedCommandIsRejected := by
  refine fun v s hb => ⟨exec_reservedCmd_idle v hb, fun hv => ?_⟩
  have hres : reservedCommand v = true := (reservedCommand_iff v).mpr hv
  refine ⟨congrArg Except.ok (decodeCmd8_reserved hres), fun d hd => ?_⟩
  have hlow : dataLow d = v := by
    obtain rfl | ⟨h, rfl, rfl⟩ := hd
    · rfl
    · exact loByte_eq_ofNat h
  rw [exec_wrScmd_idle d hb, hlow, start_reserved hres]
  rfl

/-- Settles O47: the flush writes the FIFO's field alone. -/
theorem flushEmptiesTheFifo : Obligations.FlushEmptiesTheFifo := fun _ => ⟨rfl, rfl, rfl⟩

end Sys2Proof.Primitives
end

section
/-! PROOFS. The command layer's values: the button state bit by bit, and the bytes of the reply that POLL
takes it from. -/

namespace Sys2Proof.CommandLayer

open Sys2Proof.Machine Sys2Proof.Claims

/-! ### The button state (R262) -/

/-- A half-word of two bytes, bit by bit: the low byte under bit 8 and the high byte from there on. -/
theorem halfOf_getLsbD (lo hi : Byte) {k : Nat} (hk : k < 16) :
    (halfOf lo hi).getLsbD k = if k < 8 then lo.getLsbD k else hi.getLsbD (k - 8) := by
  simp only [halfOf, BitVec.getLsbD_or, BitVec.getLsbD_shiftLeft, BitVec.getLsbD_setWidth]
  by_cases h8 : k < 8
  · simp [h8, hk]
  · have hlo : lo.getLsbD k = false := BitVec.getLsbD_of_ge lo k (not_lt.mp h8)
    simp [h8, hk, hlo, show k - 8 < 16 by omega]

/-- The complement of the raw half-word: a button is pressed where its wire bit is 0. -/
theorem buttonState_eq_not (lo hi : Byte) : buttonState lo hi = ~~~ halfOf lo hi :=
  BitVec.xor_allOnes

theorem buttonState_getLsbD (lo hi : Byte) {k : Nat} (hk : k < 16) :
    (buttonState lo hi).getLsbD k = !(if k < 8 then lo.getLsbD k else hi.getLsbD (k - 8)) := by
  rw [buttonState_eq_not, BitVec.getLsbD_not, halfOf_getLsbD lo hi hk, decide_eq_true hk,
    Bool.true_and]

/-- A reply of at least four bytes with the pad mark in byte 1 is valid (R261). -/
theorem pollResult_valid {s : State} (hn : Config.pollMinResp ≤ s.seq.n)
    (hpad : resp s 1 = s.cfg.markPad) : s.pollResult = buttonState (resp s 2) (resp s 3) :=
  if_pos ⟨hn, hpad⟩

/-! ### The obligations -/

/-- Settles O53: the raw half-word's bits complemented, the valid case of POLL's result, and the source's
three examples. -/
theorem buttonInversion : Obligations.ButtonInversion := by
  refine ⟨fun lo hi => ⟨?formula, fun k hk => buttonState_getLsbD lo hi hk⟩,
    fun s hn hpad => pollResult_valid hn hpad, ?released, ?pressed, ?bitZero⟩
  case formula => rw [buttonState, halfOf, BitVec.or_comm]
  case released | pressed | bitZero => decide

end Sys2Proof.CommandLayer
end

section
/-! PROOFS. The block reset: the register words of the reset transceiver and sequencer, the outputs and
buffer bytes that a reset leaves, and the wire event it records. -/

namespace Sys2Proof.BlockReset

open Sys2Proof.Machine Sys2Proof.Claims

/-! ### What a reset leaves of each part of the machine (R340) -/

@[simp] theorem blockReset_xc (s : State) : s.blockReset.xc = Xcvr.reset := rfl

@[simp] theorem blockReset_mem (s : State) : s.blockReset.mem = [] := rfl

@[simp] theorem blockReset_resets (s : State) : s.blockReset.resets = s.resets + 1 := rfl

/-! ### The register words, outputs, buffers and record after it (R340, R341) -/

theorem ctrlValue_reset : ctrlValue Xcvr.reset = 0 := rfl

theorem modeValue_reset : modeValue Xcvr.reset = 0 := rfl

/-- The holding register and the shifter are empty: TXRDY and TXIDLE alone read 1. -/
theorem statValue_reset : statValue Xcvr.reset = 0x0005 := rfl

/-- A running command is abandoned without End(), so DONE is 0 with BUSY (R341). -/
theorem sstatValue_blockReset (s : State) : sstatValue s.blockReset = 0 := rfl

/-- CTRL.ATTN = 0 holds both attention lines low, whichever port is selected (R25). -/
theorem attnLine_low {s : State} (h : s.xc.attn = false) (p : Port) : s.attnLine p = false := by
  rw [State.attnLine, h]
  rfl

theorem blockReset_attnLine (s : State) (p : Port) : s.blockReset.attnLine p = false :=
  attnLine_low (congrArg Xcvr.attn (blockReset_xc s)) p

/-- An offset that nothing has written since the last reset holds the draw of that reset (log 7). -/
theorem readByte_unwritten {s : State} (h : s.mem = []) (a : Nat) :
    s.readByte a = Config.bufferDraw s.resets a := by
  rw [State.readByte, h]
  rfl

theorem blockReset_readByte (s : State) (a : Nat) :
    s.blockReset.readByte a = Config.bufferDraw (s.resets + 1) a := by
  rw [readByte_unwritten (blockReset_mem s), blockReset_resets]

/-- The one event a reset records is the fall of the line that was asserted, if one was. -/
theorem blockReset_wire (s : State) :
    s.blockReset.wire = s.wire ++ (if s.xc.attn then [.attn s.now s.xc.port false] else []) := by
  obtain ⟨-, -, -, -, -, -, hwire⟩ := blockReset_frame s
  rw [hwire, Primitives.attnEvents_deassert]

/-! ### The obligations -/

/-- Settles O12: the words that are computed, the outputs, the buffer bytes and the record by the lemmas
above; every other row of R340 is a field that the reset writes or keeps. -/
theorem blockResetState : Obligations.BlockResetState := by
  refine ⟨fun s => ?blockReset, ?xcvr, ?sequencer, ?sstat, ?now, ?record⟩
  case blockReset =>
    obtain ⟨-, hnow, -⟩ := blockReset_frame s
    exact ⟨ctrlValue_reset, modeValue_reset, rfl, rfl, rfl, rfl, statValue_reset, rfl, rfl,
      sstatValue_blockReset s, rfl, rfl, rfl, rfl, rfl, rfl, rfl, rfl, rfl, rfl, rfl, rfl, rfl,
      blockReset_attnLine s .port0, blockReset_attnLine s .port1, rfl, hnow,
      blockReset_readByte s, blockReset_wire s⟩
  case xcvr | sequencer | sstat | now | record => rfl

end Sys2Proof.BlockReset
end

section
/-! PROOFS. The encoder against the decoder: the host line of a transaction, the rows that its code can
select, each operand form read back from its line, and the two round trips. -/

namespace Sys2Proof.Encoding

open Sys2Proof.Machine Sys2Proof.HostPort

/-! ### The host line of a transaction (R91; log 2) -/

/-- The bytes a transaction is written down as: its code, and the data that W and S call for. -/
def lineOf (t : Txn) : List Byte :=
  match t.w, t.s with
  | false, false => rd8 t.off
  | false, true => rd16 t.off
  | true, false => wr8 t.off (loByte t.wv)
  | true, true => wr16 t.off t.wv

theorem decode_wr16 (off : Byte) (h : Half) :
    decode (wr16 off h) = .ok (decodeTxn ⟨true, true, off, h⟩) := by
  change Except.ok (decodeTxn ⟨true, true, off, halfOf (loByte h) (hiByte h)⟩) = _
  rw [halfOf_lo_hi]

/-- A second byte below 4 is its W and its S bit. -/
theorem top_eq (top : Byte) (h : top.toNat < 4) :
    top = match top.getLsbD 1, top.getLsbD 0 with
      | false, false => 0
      | false, true => 1
      | true, false => 2
      | true, true => 3 := by
  revert top
  decide

/-- A line that decodes is one command byte or the line of a transaction. -/
theorem decode_ok_cases {bytes : List Byte} {i : Instr} (h : decode bytes = .ok i) :
    (∃ v, bytes = [v] ∧ decodeCmd8 v = i) ∨ ∃ t, bytes = lineOf t ∧ decodeTxn t = i := by
  unfold decode at h
  split at h
  case h_1 => cases h
  case h_2 v => exact .inl ⟨v, rfl, by injection h⟩
  case h_3 off top data =>
    split_ifs at h with hlow
    have htop := top_eq top (by omega)
    split at h
    case h_1 hw =>
      rw [hw] at htop
      refine .inr ⟨_, ?_, by injection h⟩
      cases hs : top.getLsbD 0 <;> rw [hs] at htop <;> simp [lineOf, rd8, rd16, htop]
    case h_2 b hw hs =>
      rw [hw, hs] at htop
      exact .inr ⟨⟨true, false, off, b.setWidth 16⟩, by simp [lineOf, wr8, htop], by injection h⟩
    case h_3 b0 b1 hw hs =>
      rw [hw, hs] at htop
      exact .inr ⟨⟨true, true, off, halfOf b0 b1⟩, by simp [lineOf, wr16, htop], by injection h⟩
    case h_4 => cases h

/-! ### The row that a code selects (R92) -/

/-- Whether a row of the table matches a transaction's code. -/
abbrev Matches (t : Txn) (r : Row) : Prop := t.code &&& r.mask = r.pattern

/-- What a match says of W, of S and of the offset, as far as the row's mask `m` covers them. -/
theorem fields_of_code {t : Txn} {m p : Code} (h : t.code &&& m = p) :
    (m.getLsbD 9 = true → t.w = p.getLsbD 9) ∧ (m.getLsbD 8 = true → t.s = p.getLsbD 8) ∧
    t.off &&& m.setWidth 8 = p.setWidth 8 := by
  rw [← h]
  obtain ⟨w, s, off, wv⟩ := t
  refine ⟨fun hm => ?_, fun hm => ?_, ?_⟩
  · cases w <;> cases s <;> simp [Txn.code, hm]
  · cases w <;> cases s <;> simp [Txn.code, hm]
  · apply BitVec.eq_of_getLsbD_eq
    intro k hk
    cases w <;> cases s <;> simp [Txn.code, hk, show k < 10 by omega]

/-- A mask that covers the offset fixes it. -/
theorem off_of_code {t : Txn} {m p : Code} {e : Byte} (h : t.code &&& m = p)
    (hm : m.setWidth 8 = BitVec.allOnes 8) (he : p.setWidth 8 = e) : t.off = e := by
  obtain ⟨-, -, hoff⟩ := fields_of_code h
  rw [← he, ← hoff, hm, BitVec.and_allOnes]

/-- The decoder passes the rows that do not match. -/
theorem decodeRows_append {t : Txn} {rs : List Row} (h : ∀ r ∈ rs, ¬ Matches t r) (rs' : List Row) :
    decodeRows t (rs ++ rs') = decodeRows t rs' := by
  induction rs with
  | nil => rfl
  | cons r rs ih =>
    rw [List.cons_append, decodeRows, if_neg (h r (by simp)), ih fun q hq => h q (by simp [hq])]

/-- The rows between MISALIGN16 and the buffers' rows: the registers. -/
def registerRows : List Row := rowsA.tail ++ rowsB.take 14

/-- The rows of the three buffers. -/
def bufferRows : List Row := (rowsB.drop 14).take 6

/-- The rows MISALIGN16 and UNMAPPED. -/
def misalignedRow : Row := ⟨0x101, 0x101, fun t => .misalign16 t.access16 t.off⟩
def unmappedRow : Row := ⟨0x000, 0x000, fun t => .unmapped t.access t.off⟩

theorem rows_eq : rows = misalignedRow :: (registerRows ++ (bufferRows ++ [unmappedRow])) := rfl

/-- A 16-bit access at an odd offset (R156). -/
abbrev Misaligned (t : Txn) : Prop := t.s = true ∧ t.off.getLsbD 0 = true

theorem matches_misalignedRow (t : Txn) : Matches t misalignedRow ↔ Misaligned t := by
  obtain ⟨w, s, off, wv⟩ := t
  simp only [Matches, Misaligned, Txn.code, misalignedRow]
  revert w s off
  decide

/-- The registers lie below the buffers. -/
theorem registerRows_low {t : Txn} {r : Row} (hr : r ∈ registerRows) (h : Matches t r) :
    t.off &&& 0xC0 = 0 := by
  have hmask : r.mask.setWidth 8 &&& 0xC0#8 = 0xC0 ∧ r.pattern.setWidth 8 &&& 0xC0#8 = 0 := by
    clear h
    revert r
    decide
  obtain ⟨-, -, hoff⟩ := fields_of_code h
  rw [← hmask.1, ← BitVec.and_assoc, hoff, hmask.2]

/-- No register and no buffer has an unmapped offset (R64). -/
theorem not_matches_of_unmapped {t : Txn} (ht : unmappedOffset t.off = true) {r : Row}
    (hr : r ∈ registerRows ++ bufferRows) : ¬ Matches t r := by
  have hrow : ∀ off : Byte, unmappedOffset off = true → ∀ r ∈ registerRows ++ bufferRows,
      off &&& r.mask.setWidth 8 ≠ r.pattern.setWidth 8 := by decide
  intro h
  obtain ⟨-, -, hoff⟩ := fields_of_code h
  exact hrow t.off ht r hr hoff

/-- A buffer's row matches every access at its offsets. -/
theorem exists_bufferRow (w s : Bool) (off : Byte) (h : off &&& 0xC0 ≠ 0) :
    ∃ r ∈ bufferRows, Txn.code ⟨w, s, off, 0⟩ &&& r.mask = r.pattern := by
  revert w s off
  decide

/-- A register's row matches every aligned access below the buffers that is not at an unmapped offset. -/
theorem exists_registerRow (w s : Bool) (k : BitVec 6) (ha : ¬ (s = true ∧ k.getLsbD 0 = true))
    (h : unmappedOffset (k.setWidth 8) = false) :
    ∃ r ∈ registerRows, Txn.code ⟨w, s, k.setWidth 8, 0⟩ &&& r.mask = r.pattern := by
  revert w s k
  decide

theorem setWidth_of_low (off : Byte) (h : off &&& 0xC0 = 0) : (off.setWidth 6).setWidth 8 = off := by
  revert off
  decide

/-- Every other offset is a register's or a buffer's, in both directions and at every aligned width. -/
theorem unmapped_of_not_matches {t : Txn} (ha : ¬ Misaligned t)
    (h : ∀ r ∈ registerRows ++ bufferRows, ¬ Matches t r) : unmappedOffset t.off = true := by
  by_contra hmapped
  by_cases hlow : t.off &&& 0xC0 = 0
  · have hoff := setWidth_of_low t.off hlow
    obtain ⟨r, hr, hm⟩ := exists_registerRow t.w t.s (t.off.setWidth 6)
      (by simpa [Misaligned] using ha) (by rw [hoff]; simpa using hmapped)
    rw [hoff] at hm
    exact h r (List.mem_append_left _ hr) hm
  · obtain ⟨r, hr, hm⟩ := exists_bufferRow t.w t.s t.off hlow
    exact h r (List.mem_append_right _ hr) hm

/-- The instruction of a transaction: MISALIGN16, a row of a register or of a buffer, or UNMAPPED. -/
theorem decodeTxn_cases (t : Txn) :
    (Misaligned t ∧ decodeTxn t = .misalign16 t.access16 t.off) ∨
    (¬ Misaligned t ∧ ∃ r ∈ registerRows ++ bufferRows, Matches t r ∧ decodeTxn t = r.build t) ∨
    (¬ Misaligned t ∧ unmappedOffset t.off = true ∧ decodeTxn t = .unmapped t.access t.off) := by
  by_cases ha : Misaligned t
  · have hm := (matches_misalignedRow t).mpr ha
    exact .inl ⟨ha, by rw [decodeTxn, rows_eq, decodeRows, if_pos hm]; rfl⟩
  · have hpass : decodeTxn t = decodeRows t ((registerRows ++ bufferRows) ++ [unmappedRow]) := by
      rw [decodeTxn, rows_eq, decodeRows, if_neg (mt (matches_misalignedRow t).mp ha),
        List.append_assoc]
    rw [hpass]
    cases hfind : (registerRows ++ bufferRows).find? (fun r => t.code &&& r.mask = r.pattern) with
    | some r =>
      refine .inr (.inl ⟨ha, r, List.mem_of_find?_eq_some hfind, by simpa using List.find?_some hfind,
        decodeRows_of_find t ?_⟩)
      rw [List.find?_append, hfind, Option.some_or]
    | none =>
      have hnone : ∀ r ∈ registerRows ++ bufferRows, ¬ Matches t r := by
        simpa only [List.find?_eq_none, decide_eq_true_eq] using hfind
      refine .inr (.inr ⟨ha, unmapped_of_not_matches ha hnone, ?_⟩)
      rw [decodeRows_append hnone, decodeRows, if_pos (show Matches t unmappedRow from BitVec.and_zero)]
      rfl

/-! ### The operand forms of a transaction, written back (R91, R95) -/

section

variable {t : Txn}

theorem encodeRead_width (hw : t.w = false) : encodeRead t.width t.off = lineOf t := by
  cases hs : t.s <;> simp [Txn.width, lineOf, encodeRead, hw, hs]

theorem encodeWrite_wdata (hw : t.w = true) : encodeWrite t.wdata t.off = lineOf t := by
  cases hs : t.s <;> simp [Txn.wdata, lineOf, encodeWrite, hw, hs]

theorem encodeAccess_access : encodeAccess t.access t.off = lineOf t := by
  cases hw : t.w
  · simp [Txn.access, hw, encodeAccess, encodeRead_width hw]
  · simp [Txn.access, hw, encodeAccess, encodeWrite_wdata hw]

theorem encodeAccess8_access8 (hs : t.s = false) : encodeAccess8 t.access8 t.off = lineOf t := by
  cases hw : t.w <;> simp [Txn.access8, lineOf, encodeAccess8, hw, hs]

theorem encodeAccess16_access16 (hs : t.s = true) : encodeAccess16 t.access16 t.off = lineOf t := by
  cases hw : t.w <;> simp [Txn.access16, lineOf, encodeAccess16, hw, hs]

/-- The two offsets of a 16-bit register. -/
theorem off_of_even {off e : Byte} (h : off &&& 0xFE = e) :
    off = if off.getLsbD 0 then e + 1 else e := by
  subst h
  revert off
  decide

theorem encodeRLane_rlane {e : Byte} (hw : t.w = false) (ha : ¬ Misaligned t)
    (he : t.off &&& 0xFE = e) : encodeRLane t.rlane e = lineOf t := by
  have hoff := off_of_even he
  cases hs : t.s <;> cases h0 : t.off.getLsbD 0 <;> rw [h0] at hoff
  case true.true => exact absurd ⟨hs, h0⟩ ha
  all_goals simp_all [Txn.rlane, lineOf, encodeRLane]

theorem encodeWLane_wlane {e : Byte} (hw : t.w = true) (ha : ¬ Misaligned t)
    (he : t.off &&& 0xFE = e) : encodeWLane t.wlane e = lineOf t := by
  have hoff := off_of_even he
  cases hs : t.s <;> cases h0 : t.off.getLsbD 0 <;> rw [h0] at hoff
  case true.true => exact absurd ⟨hs, h0⟩ ha
  all_goals simp_all [Txn.wlane, lineOf, encodeWLane]

end

/-! ### Each row's instruction is written back as the line (R92) -/

/-- An instruction that a transaction can be read as. -/
def Faithful (t : Txn) (i : Instr) : Prop := i.wf = true ∧ encode i = lineOf t

/-- A row whose instruction is well-formed and written back as the line, wherever the row decides. -/
def RowFaithful (r : Row) : Prop := ∀ t, Matches t r → ¬ Misaligned t → Faithful t (r.build t)

section

variable {p : Code} {e : Byte}

theorem rowFaithful_read {i : Width → Instr} (hw : p.getLsbD 9 = false) (he : p.setWidth 8 = e)
    (hi : ∀ w, (i w).wf = true ∧ encode (i w) = encodeRead w e) :
    RowFaithful ⟨p, 0x2FF, fun t => i t.width⟩ := by
  intro t hm _
  obtain ⟨htw, -, -⟩ := fields_of_code (m := 0x2FF) hm
  have hoff := off_of_code (m := 0x2FF) hm rfl he
  refine ⟨(hi _).1, (hi _).2.trans ?_⟩
  rw [← hoff, encodeRead_width ((htw (by decide)).trans hw)]

theorem rowFaithful_write {i : WData → Instr} (hw : p.getLsbD 9 = true) (he : p.setWidth 8 = e)
    (hi : ∀ d, (i d).wf = true ∧ encode (i d) = encodeWrite d e) :
    RowFaithful ⟨p, 0x2FF, fun t => i t.wdata⟩ := by
  intro t hm _
  obtain ⟨htw, -, -⟩ := fields_of_code (m := 0x2FF) hm
  have hoff := off_of_code (m := 0x2FF) hm rfl he
  refine ⟨(hi _).1, (hi _).2.trans ?_⟩
  rw [← hoff, encodeWrite_wdata ((htw (by decide)).trans hw)]

/-- The RZ bytes stand at odd offsets, so an aligned access of one has 8 bits (R124). -/
theorem rowFaithful_access8 {i : Access8 → Instr} (he : p.setWidth 8 = e)
    (hodd : e.getLsbD 0 = true) (hi : ∀ a, (i a).wf = true ∧ encode (i a) = encodeAccess8 a e) :
    RowFaithful ⟨p, 0x0FF, fun t => i t.access8⟩ := by
  intro t hm ha
  have hoff := off_of_code (m := 0x0FF) hm rfl he
  have hs : t.s = false := by simpa [Misaligned, hoff, hodd] using ha
  refine ⟨(hi _).1, (hi _).2.trans ?_⟩
  rw [← hoff, encodeAccess8_access8 hs]

theorem rowFaithful_access16 {i : Access16 → Instr} (hs : p.getLsbD 8 = true)
    (he : p.setWidth 8 = e) (hi : ∀ a, (i a).wf = true ∧ encode (i a) = encodeAccess16 a e) :
    RowFaithful ⟨p, 0x1FF, fun t => i t.access16⟩ := by
  intro t hm _
  obtain ⟨-, hts, -⟩ := fields_of_code (m := 0x1FF) hm
  have hoff := off_of_code (m := 0x1FF) hm rfl he
  refine ⟨(hi _).1, (hi _).2.trans ?_⟩
  rw [← hoff, encodeAccess16_access16 ((hts (by decide)).trans hs)]

theorem rowFaithful_rlane {i : RLane → Instr} (hw : p.getLsbD 9 = false) (he : p.setWidth 8 = e)
    (hi : ∀ l, (i l).wf = true ∧ encode (i l) = encodeRLane l e) :
    RowFaithful ⟨p, 0x2FE, fun t => i t.rlane⟩ := by
  intro t hm ha
  obtain ⟨htw, -, hoff⟩ := fields_of_code (m := 0x2FE) hm
  exact ⟨(hi _).1, (hi _).2.trans (encodeRLane_rlane ((htw (by decide)).trans hw) ha (hoff.trans he))⟩

theorem rowFaithful_wlane {i : WLane → Instr} (hw : p.getLsbD 9 = true) (he : p.setWidth 8 = e)
    (hi : ∀ l, (i l).wf = true ∧ encode (i l) = encodeWLane l e) :
    RowFaithful ⟨p, 0x2FE, fun t => i t.wlane⟩ := by
  intro t hm ha
  obtain ⟨htw, -, hoff⟩ := fields_of_code (m := 0x2FE) hm
  exact ⟨(hi _).1, (hi _).2.trans (encodeWLane_wlane ((htw (by decide)).trans hw) ha (hoff.trans he))⟩

theorem rowFaithful_rd8 {i : Instr} (hw : p.getLsbD 9 = false) (hs : p.getLsbD 8 = false)
    (he : p.setWidth 8 = e) (hi : i.wf = true ∧ encode i = rd8 e) :
    RowFaithful ⟨p, 0x3FF, fun _ => i⟩ := by
  intro t hm _
  obtain ⟨htw, hts, -⟩ := fields_of_code (m := 0x3FF) hm
  have hoff := off_of_code (m := 0x3FF) hm rfl he
  refine ⟨hi.1, hi.2.trans ?_⟩
  rw [lineOf, (htw (by decide)).trans hw, (hts (by decide)).trans hs, hoff]

theorem rowFaithful_wr8 {i : Byte → Instr} (hw : p.getLsbD 9 = true) (hs : p.getLsbD 8 = false)
    (he : p.setWidth 8 = e) (hi : ∀ b, (i b).wf = true ∧ encode (i b) = wr8 e b) :
    RowFaithful ⟨p, 0x3FF, fun t => i (loByte t.wv)⟩ := by
  intro t hm _
  obtain ⟨htw, hts, -⟩ := fields_of_code (m := 0x3FF) hm
  have hoff := off_of_code (m := 0x3FF) hm rfl he
  refine ⟨(hi _).1, (hi _).2.trans ?_⟩
  rw [lineOf, (htw (by decide)).trans hw, (hts (by decide)).trans hs, hoff]

/-- The index of a buffer's byte is the low part of its offset. -/
theorem bufferOffset_index {base off : Byte} (h : off &&& 0xC0 = base) :
    bufferOffset base (off.setWidth 6) = off := by
  subst h
  revert off
  decide

/-- An aligned access of a buffer has an index that its width fits (R63). -/
theorem fits_index {t : Txn} (ha : ¬ Misaligned t) : t.width.fits t.index = true := by
  have h0 : t.index.getLsbD 0 = t.off.getLsbD 0 := by simp [Txn.index]
  cases hs : t.s <;> simp_all [Misaligned, Txn.width, Width.fits]

theorem wdata_width (t : Txn) : t.wdata.width = t.width := by
  cases hs : t.s <;> simp [Txn.wdata, Txn.width, WData.width, hs]

theorem rowFaithful_bufferRead {i : Width → BitVec 6 → Instr} (hw : p.getLsbD 9 = false)
    (he : p.setWidth 8 = e)
    (hi : ∀ w k, (i w k).wf = w.fits k ∧ encode (i w k) = encodeRead w (bufferOffset e k)) :
    RowFaithful ⟨p, 0x2C0, fun t => i t.width t.index⟩ := by
  intro t hm ha
  obtain ⟨htw, -, hoff⟩ := fields_of_code (m := 0x2C0) hm
  refine ⟨(hi _ _).1.trans (fits_index ha), (hi _ _).2.trans ?_⟩
  rw [Txn.index, bufferOffset_index (hoff.trans he), encodeRead_width ((htw (by decide)).trans hw)]

theorem rowFaithful_bufferWrite {i : WData → BitVec 6 → Instr} (hw : p.getLsbD 9 = true)
    (he : p.setWidth 8 = e)
    (hi : ∀ d k, (i d k).wf = d.width.fits k ∧ encode (i d k) = encodeWrite d (bufferOffset e k)) :
    RowFaithful ⟨p, 0x2C0, fun t => i t.wdata t.index⟩ := by
  intro t hm ha
  obtain ⟨htw, -, hoff⟩ := fields_of_code (m := 0x2C0) hm
  refine ⟨(hi _ _).1.trans (wdata_width t ▸ fits_index ha), (hi _ _).2.trans ?_⟩
  rw [Txn.index, bufferOffset_index (hoff.trans he), encodeWrite_wdata ((htw (by decide)).trans hw)]

end

/-- The transceiver's rows and those of SCMD, SSTAT and the WIDE accesses. -/
theorem rowsA_faithful : ∀ r ∈ rowsA.tail, RowFaithful r := by
  simp only [rowsA, List.tail_cons, List.forall_mem_cons]
  refine ⟨?rdData, ?wrData, ?rz01, ?rz21, ?rz29, ?rdStat, ?wrStat, ?rdMode, ?wrMode, ?rdCtrl, ?wrCtrl,
    ?rdBaud, ?wrBaud, ?rdIstat, ?wrIstat, ?rdScmd, ?wrScmd, ?rdSstat, ?wrSstat, ?wide24, ?wide26,
    ?none⟩
  case rdData | rdScmd => exact rowFaithful_read rfl rfl fun _ => ⟨rfl, rfl⟩
  case wrData | wrScmd => exact rowFaithful_write rfl rfl fun _ => ⟨rfl, rfl⟩
  case rz01 | rz21 | rz29 => exact rowFaithful_access8 rfl rfl fun _ => ⟨rfl, rfl⟩
  case rdStat | rdMode | rdCtrl | rdBaud | rdIstat | rdSstat =>
    exact rowFaithful_rlane rfl rfl fun _ => ⟨rfl, rfl⟩
  case wrStat | wrMode | wrCtrl | wrBaud | wrIstat | wrSstat =>
    exact rowFaithful_wlane rfl rfl fun _ => ⟨rfl, rfl⟩
  case wide24 | wide26 => exact rowFaithful_access16 rfl rfl fun _ => ⟨rfl, rfl⟩
  case none => simp

/-- The other registers' rows and the buffers'. -/
theorem rowsB_faithful : ∀ r ∈ rowsB.dropLast, RowFaithful r := by
  simp only [rowsB, List.dropLast_cons_cons, List.dropLast_singleton, List.forall_mem_cons]
  refine ⟨?rdSaddr, ?wrSaddr, ?rdSarg, ?wrSarg, ?rdSreqlen, ?wrSreqlen, ?rdSmaxresp, ?wrSmaxresp,
    ?rdSresplen, ?wrSresplen, ?rdSresult, ?wrSresult, ?rdStimeout, ?wrStimeout, ?rdReqbuf, ?wrReqbuf,
    ?rdRespbuf, ?wrRespbuf, ?rdPkt, ?wrPkt, ?none⟩
  case rdSaddr | rdSarg | rdSreqlen | rdSmaxresp => exact rowFaithful_rd8 rfl rfl rfl ⟨rfl, rfl⟩
  case wrSaddr | wrSarg | wrSreqlen | wrSmaxresp =>
    exact rowFaithful_wr8 rfl rfl rfl fun _ => ⟨rfl, rfl⟩
  case rdSresplen => exact rowFaithful_read rfl rfl fun _ => ⟨rfl, rfl⟩
  case wrSresplen => exact rowFaithful_write rfl rfl fun _ => ⟨rfl, rfl⟩
  case rdSresult | rdStimeout => exact rowFaithful_rlane rfl rfl fun _ => ⟨rfl, rfl⟩
  case wrSresult | wrStimeout => exact rowFaithful_wlane rfl rfl fun _ => ⟨rfl, rfl⟩
  case rdReqbuf | rdRespbuf | rdPkt => exact rowFaithful_bufferRead rfl rfl fun _ _ => ⟨rfl, rfl⟩
  case wrReqbuf | wrRespbuf | wrPkt => exact rowFaithful_bufferWrite rfl rfl fun _ _ => ⟨rfl, rfl⟩
  case none => simp

/-- A transaction's instruction is well-formed and written back as the transaction's line. -/
theorem decodeTxn_faithful (t : Txn) : Faithful t (decodeTxn t) := by
  obtain ⟨ha, h⟩ | ⟨ha, r, hr, hm, h⟩ | ⟨ha, hu, h⟩ := decodeTxn_cases t <;> rw [h]
  · exact ⟨ha.2, encodeAccess16_access16 ha.1⟩
  · have hr : r ∈ rowsA.tail ++ rowsB.dropLast := hr
    obtain hA | hB := List.mem_append.mp hr
    · exact rowsA_faithful r hA t hm ha
    · exact rowsB_faithful r hB t hm ha
  · refine ⟨?_, encodeAccess_access⟩
    have hwidth : t.access.width = t.width := by
      cases hw : t.w <;> simp [Txn.access, Access.width, hw, wdata_width]
    cases hs : t.s <;> simp_all [Instr.wf, Misaligned, Txn.width]

/-- A command byte's instruction is well-formed and written back as the byte (R93). -/
theorem decodeCmd8_faithful (v : Byte) :
    (decodeCmd8 v).wf = true ∧ encode (decodeCmd8 v) = [v] := by
  revert v
  decide

/-! ### Each operand form is read back from its line (R91, R92) -/

section

variable {off : Byte} {r : Row}

/-- The row a code selects builds the instruction of every transaction with that code. -/
theorem decodeTxn_eq_build {w s : Bool} (h : rowOf (Txn.code ⟨w, s, off, 0⟩) = some r) (wv : Half) :
    decodeTxn ⟨w, s, off, wv⟩ = r.build ⟨w, s, off, wv⟩ := decodeTxn_of_rowOf ⟨w, s, off, wv⟩ h

theorem decode_encodeRead {i : Width → Instr} (h8 : decode (rd8 off) = .ok (i .w8))
    (h16 : decode (rd16 off) = .ok (i .w16)) (w : Width) :
    decode (encodeRead w off) = .ok (i w) := by
  cases w
  · exact h8
  · exact h16

theorem decode_encodeRLane {i : RLane → Instr} (h : Claims.readsAt off i) (l : RLane) :
    decode (encodeRLane l off) = .ok (i l) := by
  obtain ⟨hlo, hhi, hwhole⟩ := h
  cases l
  · exact hlo
  · exact hhi
  · exact hwhole

/-- The data of an 8-bit write comes back as it was written. -/
theorem decode_wr8_of_rowOf {i : Byte → Instr} (h : rowOf (Txn.code ⟨true, false, off, 0⟩) = some r)
    (hi : ∀ wv, r.build ⟨true, false, off, wv⟩ = i (loByte wv)) (b : Byte) :
    decode (wr8 off b) = .ok (i b) := by
  rw [decode_wr8, decodeTxn_eq_build h, hi, loByte_setWidth]

theorem decode_wr16_of_rowOf {i : Half → Instr} (h : rowOf (Txn.code ⟨true, true, off, 0⟩) = some r)
    (hi : ∀ wv, r.build ⟨true, true, off, wv⟩ = i wv) (v : Half) :
    decode (wr16 off v) = .ok (i v) := by
  rw [decode_wr16, decodeTxn_eq_build h, hi]

theorem decode_encodeWrite {i : WData → Instr} (h8 : ∀ b, decode (wr8 off b) = .ok (i (.w8 b)))
    (h16 : ∀ v, decode (wr16 off v) = .ok (i (.w16 v))) (d : WData) :
    decode (encodeWrite d off) = .ok (i d) := by
  cases d
  · exact h8 _
  · exact h16 _

theorem decode_encodeAccess8 {i : Access8 → Instr} (hread : decode (rd8 off) = .ok (i .read))
    (h : rowOf (Txn.code ⟨true, false, off, 0⟩) = some r)
    (hi : ∀ wv, r.build ⟨true, false, off, wv⟩ = i (.write (loByte wv))) (a : Access8) :
    decode (encodeAccess8 a off) = .ok (i a) := by
  cases a with
  | read => exact hread
  | write b => exact decode_wr8_of_rowOf (i := fun b => i (.write b)) h hi b

theorem decode_encodeAccess16 {i : Access16 → Instr} (hread : decode (rd16 off) = .ok (i .read))
    (h : rowOf (Txn.code ⟨true, true, off, 0⟩) = some r)
    (hi : ∀ wv, r.build ⟨true, true, off, wv⟩ = i (.write wv)) (a : Access16) :
    decode (encodeAccess16 a off) = .ok (i a) := by
  cases a with
  | read => exact hread
  | write v => exact decode_wr16_of_rowOf (i := fun v => i (.write v)) h hi v

theorem decode_encodeWLane {i : WLane → Instr} (hlo : ∀ b, decode (wr8 off b) = .ok (i (.lo b)))
    (hhi : ∀ b, decode (wr8 (off + 1) b) = .ok (i (.hi b)))
    (hwhole : ∀ v, decode (wr16 off v) = .ok (i (.whole v))) (l : WLane) :
    decode (encodeWLane l off) = .ok (i l) := by
  cases l
  · exact hlo _
  · exact hhi _
  · exact hwhole _

end

/-- A write of one value, at each of its widths, selects the row named in the table. -/
theorem decode_encodeWrite_of_rowOf {off : Byte} {r : Row} {i : WData → Instr}
    (h8 : rowOf (Txn.code ⟨true, false, off, 0⟩) = some r)
    (h16 : rowOf (Txn.code ⟨true, true, off, 0⟩) = some r)
    (hi : r.build = fun t => i t.wdata) (d : WData) : decode (encodeWrite d off) = .ok (i d) :=
  decode_encodeWrite (fun b => decode_wr8_of_rowOf (i := fun b => i (.w8 b)) h8 (fun _ => by rw [hi]; rfl) b)
    (fun v => decode_wr16_of_rowOf (i := fun v => i (.w16 v)) h16 (fun _ => by rw [hi]; rfl) v) d

theorem decode_encodeWLane_of_rowOf {off : Byte} {r : Row} {i : WLane → Instr}
    (hlo : rowOf (Txn.code ⟨true, false, off, 0⟩) = some r)
    (hhi : rowOf (Txn.code ⟨true, false, off + 1, 0⟩) = some r)
    (hwhole : rowOf (Txn.code ⟨true, true, off, 0⟩) = some r) (heven : off.getLsbD 0 = false)
    (hi : r.build = fun t => i t.wlane) (l : WLane) : decode (encodeWLane l off) = .ok (i l) := by
  have hodd : (off + 1).getLsbD 0 = true := by
    clear hlo hhi hwhole
    revert off
    decide
  refine decode_encodeWLane (fun b => decode_wr8_of_rowOf (i := fun b => i (.lo b)) hlo (fun _ => ?_) b)
    (fun b => decode_wr8_of_rowOf (i := fun b => i (.hi b)) hhi (fun _ => ?_) b)
    (fun v => decode_wr16_of_rowOf (i := fun v => i (.whole v)) hwhole (fun _ => ?_) v) l
  · simp only [hi, Txn.wlane, heven, Bool.false_eq_true, if_false]
  · simp only [hi, Txn.wlane, hodd, Bool.false_eq_true, if_false, if_true]
  · simp only [hi, Txn.wlane, if_true]

/-! ### The buffers, whose codes carry the index, and the two rows that are not registers -/

/-- A misaligned access selects the first row. -/
theorem decodeTxn_misaligned {t : Txn} (h : Misaligned t) :
    decodeTxn t = .misalign16 t.access16 t.off := by
  obtain ⟨-, heq⟩ | ⟨ha, -⟩ | ⟨ha, -⟩ := decodeTxn_cases t
  · exact heq
  · exact absurd h ha
  · exact absurd h ha

/-- At a buffer's offset no register's row matches, so the buffers' rows decide. -/
theorem decodeTxn_buffer {t : Txn} (ha : ¬ Misaligned t) (hoff : t.off &&& 0xC0 ≠ 0) :
    decodeTxn t = decodeRows t (bufferRows ++ [unmappedRow]) := by
  rw [decodeTxn, rows_eq, decodeRows, if_neg (mt (matches_misalignedRow t).mp ha),
    decodeRows_append fun r hr hm => hoff (registerRows_low hr hm)]

/-- An unmapped offset selects the last row. -/
theorem decodeTxn_unmapped {t : Txn} (ha : ¬ Misaligned t) (hu : unmappedOffset t.off = true) :
    decodeTxn t = .unmapped t.access t.off := by
  obtain ⟨h, -⟩ | ⟨-, r, hr, hm, -⟩ | ⟨-, -, heq⟩ := decodeTxn_cases t
  · exact absurd h ha
  · exact absurd hm (not_matches_of_unmapped hu hr)
  · exact heq

/-- A buffer's window offset carries its base and its index. -/
theorem bufferOffset_parts {base : Byte} (hbase : base = 0x40 ∨ base = 0x80 ∨ base = 0xC0)
    (k : BitVec 6) :
    bufferOffset base k &&& 0xC0 = base ∧ (bufferOffset base k).setWidth 6 = k ∧
      (bufferOffset base k).getLsbD 0 = k.getLsbD 0 := by
  rcases hbase with rfl | rfl | rfl <;> revert k <;> decide

/-- Rows that see no more of a code than of another decide as for the other. -/
theorem decodeRows_of_find_congr {t : Txn} {c : Code} {rs : List Row} {r : Row}
    (hc : ∀ q ∈ rs, t.code &&& q.mask = c &&& q.mask)
    (h : rs.find? (fun q => c &&& q.mask = q.pattern) = some r) : decodeRows t rs = r.build t := by
  refine decodeRows_of_find t (Eq.trans ?_ h)
  exact List.find?_congr fun q hq => by rw [hc q hq]

/-- A buffer's row sees the direction and the two high bits of the offset. -/
theorem code_and_bufferMask (w s : Bool) (off : Byte) (wv : Half) :
    Txn.code ⟨w, s, off, wv⟩ &&& 0x2C0 = Txn.code ⟨w, false, off &&& 0xC0, 0⟩ := by
  change Txn.code ⟨w, s, off, 0⟩ &&& 0x2C0 = _
  revert w s off
  decide

section

variable {base : Byte} {r : Row}

/-- The row that decides at the offsets of the buffer at `base`, by direction. -/
def bufferRowOf (w : Bool) (base : Byte) : Option Row :=
  (bufferRows ++ [unmappedRow]).find? fun r => Txn.code ⟨w, false, base, 0⟩ &&& r.mask = r.pattern

theorem decodeTxn_bufferOffset {w s : Bool} (hbase : base = 0x40 ∨ base = 0x80 ∨ base = 0xC0)
    (hr : bufferRowOf w base = some r) {k : BitVec 6} (ha : (s && k.getLsbD 0) = false) (wv : Half) :
    decodeTxn ⟨w, s, bufferOffset base k, wv⟩ = r.build ⟨w, s, bufferOffset base k, wv⟩ := by
  obtain ⟨hhigh, -, hbit⟩ := bufferOffset_parts hbase k
  have hcode : ∀ q ∈ bufferRows ++ [unmappedRow],
      Txn.code ⟨w, s, bufferOffset base k, wv⟩ &&& q.mask = Txn.code ⟨w, false, base, 0⟩ &&& q.mask := by
    intro q hq
    have hmask : q.mask = 0x2C0 &&& q.mask := by
      revert q
      decide
    rw [hmask, ← BitVec.and_assoc, ← BitVec.and_assoc, code_and_bufferMask, hhigh]
    congr 1
    rcases hbase with rfl | rfl | rfl <;> cases w <;> rfl
  have haligned : ¬ Misaligned ⟨w, s, bufferOffset base k, wv⟩ := by
    simp only [Misaligned, hbit, ← Bool.and_eq_true, ha, Bool.false_eq_true, not_false_eq_true]
  rw [decodeTxn_buffer haligned (by rw [hhigh]; rcases hbase with rfl | rfl | rfl <;> decide)]
  exact decodeRows_of_find_congr hcode hr

theorem decode_encodeRead_buffer {i : Width → BitVec 6 → Instr}
    (hbase : base = 0x40 ∨ base = 0x80 ∨ base = 0xC0) (hr : bufferRowOf false base = some r)
    (hi : r.build = fun t => i t.width t.index) {w : Width} {k : BitVec 6}
    (hfit : w.fits k = true) : decode (encodeRead w (bufferOffset base k)) = .ok (i w k) := by
  obtain ⟨-, hindex, -⟩ := bufferOffset_parts hbase k
  cases w with
  | w8 =>
    rw [encodeRead, decode_rd8, decodeTxn_bufferOffset hbase hr rfl, hi]
    simp [Txn.width, Txn.index, hindex]
  | w16 =>
    have ha : (true && k.getLsbD 0) = false := by simpa [Width.fits] using hfit
    rw [encodeRead, decode_rd16, decodeTxn_bufferOffset hbase hr ha, hi]
    simp [Txn.width, Txn.index, hindex]

theorem decode_encodeWrite_buffer {i : WData → BitVec 6 → Instr}
    (hbase : base = 0x40 ∨ base = 0x80 ∨ base = 0xC0) (hr : bufferRowOf true base = some r)
    (hi : r.build = fun t => i t.wdata t.index) {d : WData} {k : BitVec 6}
    (hfit : d.width.fits k = true) : decode (encodeWrite d (bufferOffset base k)) = .ok (i d k) := by
  obtain ⟨-, hindex, -⟩ := bufferOffset_parts hbase k
  cases d with
  | w8 b =>
    rw [encodeWrite, decode_wr8, decodeTxn_bufferOffset hbase hr rfl, hi]
    simp [Txn.wdata, Txn.index, hindex]
  | w16 v =>
    have ha : (true && k.getLsbD 0) = false := by simpa [WData.width, Width.fits] using hfit
    rw [encodeWrite, decode_wr16, decodeTxn_bufferOffset hbase hr ha, hi]
    simp [Txn.wdata, Txn.index, hindex]

end

/-- MISALIGN16 is read back at every odd offset (R156). -/
theorem decode_encode_misalign16 (a : Access16) {off : Byte} (h : off.getLsbD 0 = true) :
    decode (encode (.misalign16 a off)) = .ok (.misalign16 a off) := by
  cases a with
  | read =>
    change decode (rd16 off) = _
    rw [decode_rd16, decodeTxn_misaligned ⟨rfl, h⟩]
    rfl
  | write v =>
    change decode (wr16 off v) = _
    rw [decode_wr16, decodeTxn_misaligned ⟨rfl, h⟩]
    rfl

/-- UNMAPPED is read back at every unmapped offset that is not misaligned (R64, R158). -/
theorem decode_encode_unmapped (a : Access) {off : Byte} (hu : unmappedOffset off = true)
    (ha : a.width = .w16 → off.getLsbD 0 = false) :
    decode (encode (.unmapped a off)) = .ok (.unmapped a off) := by
  have hbyte (t : Txn) (hs : t.s = false) : ¬ Misaligned t := by simp [Misaligned, hs]
  have hhalf (t : Txn) (h : t.off.getLsbD 0 = false) : ¬ Misaligned t := by
    simp only [Misaligned, h, Bool.false_eq_true, and_false, not_false_eq_true]
  rcases a with (_ | _) | (b | v)
  · exact congrArg Except.ok (decodeTxn_unmapped (t := ⟨false, false, off, 0⟩) (hbyte _ rfl) hu)
  · exact congrArg Except.ok
      (decodeTxn_unmapped (t := ⟨false, true, off, 0⟩) (hhalf _ (ha rfl)) hu)
  · refine (decode_wr8 off b).trans (congrArg Except.ok ?_)
    rw [decodeTxn_unmapped (t := ⟨true, false, off, b.setWidth 16⟩) (hbyte _ rfl) hu]
    simp [Txn.access, Txn.wdata]
  · exact (decode_wr16 off v).trans (congrArg Except.ok
      (decodeTxn_unmapped (t := ⟨true, true, off, v⟩) (hhalf _ (ha rfl)) hu))

/-! ### The obligations -/

/-- Settles O1: the operand forms, each at the rows that its codes select. -/
theorem decodeOfEncode : Obligations.DecodeOfEncode := by
  intro i hwf
  cases i with
  | misalign16 a off => exact decode_encode_misalign16 a hwf
  | unmapped a off =>
    obtain ⟨hu, ha⟩ : unmappedOffset off = true ∧ (a.width = .w8 ∨ off.getLsbD 0 = false) := by
      simpa [Instr.wf] using hwf
    exact decode_encode_unmapped a hu fun h => ha.resolve_left (by simp [h])
  | rz01 a | rz21 a | rz29 a =>
    exact decode_encodeAccess8 rfl rfl (fun _ => rfl) a
  | wide24 a | wide26 a =>
    exact decode_encodeAccess16 rfl rfl (fun _ => rfl) a
  | rdData w | rdScmd w | rdSresplen w => exact decode_encodeRead rfl rfl w
  | wrData d | wrScmd d | wrSresplen d => exact decode_encodeWrite_of_rowOf rfl rfl rfl d
  | rdStat l | rdMode l | rdCtrl l | rdBaud l | rdIstat l | rdSstat l | rdSresult l | rdStimeout l =>
    exact decode_encodeRLane (readsAt_of_rows rfl rfl rfl) l
  | wrStat l | wrMode l | wrCtrl l | wrBaud l | wrIstat l | wrSstat l | wrSresult l | wrStimeout l =>
    exact decode_encodeWLane_of_rowOf rfl rfl rfl rfl rfl l
  | rdSaddr | rdSarg | rdSreqlen | rdSmaxresp => rfl
  | wrSaddr b | wrSarg b | wrSreqlen b | wrSmaxresp b =>
    exact decode_wr8_of_rowOf rfl (fun _ => rfl) b
  | rdReqbuf w k => exact decode_encodeRead_buffer (.inl rfl) rfl rfl hwf
  | rdRespbuf w k => exact decode_encodeRead_buffer (.inr (.inl rfl)) rfl rfl hwf
  | rdPkt w k => exact decode_encodeRead_buffer (.inr (.inr rfl)) rfl rfl hwf
  | wrReqbuf d k => exact decode_encodeWrite_buffer (.inl rfl) rfl rfl hwf
  | wrRespbuf d k => exact decode_encodeWrite_buffer (.inr (.inl rfl)) rfl rfl hwf
  | wrPkt d k => exact decode_encodeWrite_buffer (.inr (.inr rfl)) rfl rfl hwf
  | init | select | waitack | xbyte | xchg | xnoack | poll | probe | bcast => rfl
  | reservedCmd v => exact congrArg Except.ok (Primitives.decodeCmd8_reserved hwf)

/-- Settles O2: the line is a command byte or a transaction's, and either is written back as it was. -/
theorem decodedLineIsItsEncoding : Obligations.DecodedLineIsItsEncoding := by
  intro bytes i h
  obtain ⟨v, rfl, rfl⟩ | ⟨t, rfl, rfl⟩ := decode_ok_cases h
  · exact decodeCmd8_faithful v
  · exact decodeTxn_faithful t

/-- Settles O3: each word is the encoding of the instruction it stands for. -/
theorem specWordsDecode : Obligations.SpecWordsDecode :=
  ⟨decodeOfEncode (.rdData .w16) rfl, decodeOfEncode (.rz01 (.write 0xAB)) rfl,
    decodeOfEncode (.misalign16 .read 0x0B) rfl, decodeOfEncode (.wrCtrl (.whole 0x3007)) rfl,
    decodeOfEncode (.unmapped (.read .w8) 0x12) rfl, decodeOfEncode (.rdSstat .whole) rfl,
    decodeOfEncode (.wide24 (.write 0x0001)) rfl, decodeOfEncode (.wrReqbuf (.w8 0x41) 63) rfl,
    decodeOfEncode (.rdPkt .w16 62) rfl, decodeOfEncode .poll rfl,
    decodeOfEncode (.reservedCmd 0x13) rfl⟩

end Sys2Proof.Encoding
end

section
/-! PROOFS. The host port's writes and the busy filter: a load of the shifter field by field, one equation
for each write, and the obligations settled from these. -/

namespace Sys2Proof.HostWrites

open Sys2Proof.Machine Sys2Proof.Claims Sys2Proof.HostPort

/-! ### What a load changes (R171) -/

/-- A load changes the holding register, the shifter and the wire record alone. -/
theorem tryLoad_frame (s : State) :
    s.tryLoad = { s with
      xc := { s.xc with txh := s.tryLoad.xc.txh, sh := s.tryLoad.xc.sh }
      wire := s.tryLoad.wire } := by
  obtain ⟨h, -⟩ | ⟨b, -, -, -, h⟩ := tryLoad_cases s <;> rw [h]

section

variable (s : State)

@[simp] theorem tryLoad_cfg : s.tryLoad.cfg = s.cfg := congrArg (·.cfg) (tryLoad_frame s)
@[simp] theorem tryLoad_now : s.tryLoad.now = s.now := congrArg (·.now) (tryLoad_frame s)
@[simp] theorem tryLoad_busy : s.tryLoad.busy = s.busy := congrArg (·.busy) (tryLoad_frame s)
@[simp] theorem tryLoad_done : s.tryLoad.done = s.done := congrArg (·.done) (tryLoad_frame s)
@[simp] theorem tryLoad_err : s.tryLoad.err = s.err := congrArg (·.err) (tryLoad_frame s)
@[simp] theorem tryLoad_st : s.tryLoad.st = s.st := congrArg (·.st) (tryLoad_frame s)
@[simp] theorem tryLoad_mem : s.tryLoad.mem = s.mem := congrArg (·.mem) (tryLoad_frame s)
@[simp] theorem tryLoad_seq : s.tryLoad.seq = s.seq := congrArg (·.seq) (tryLoad_frame s)
@[simp] theorem tryLoad_dev : s.tryLoad.dev = s.dev := congrArg (·.dev) (tryLoad_frame s)
@[simp] theorem tryLoad_resets : s.tryLoad.resets = s.resets :=
  congrArg (·.resets) (tryLoad_frame s)
@[simp] theorem tryLoad_sresult : s.tryLoad.sresult = s.sresult :=
  congrArg (·.sresult) (tryLoad_frame s)
@[simp] theorem tryLoad_sresplen : s.tryLoad.sresplen = s.sresplen :=
  congrArg (·.sresplen) (tryLoad_frame s)
@[simp] theorem tryLoad_attn : s.tryLoad.xc.attn = s.xc.attn :=
  congrArg (·.xc.attn) (tryLoad_frame s)
@[simp] theorem tryLoad_port : s.tryLoad.xc.port = s.xc.port :=
  congrArg (·.xc.port) (tryLoad_frame s)
@[simp] theorem tryLoad_txen : s.tryLoad.xc.txen = s.xc.txen :=
  congrArg (·.xc.txen) (tryLoad_frame s)
@[simp] theorem tryLoad_rxen : s.tryLoad.xc.rxen = s.xc.rxen :=
  congrArg (·.xc.rxen) (tryLoad_frame s)
@[simp] theorem tryLoad_ackie : s.tryLoad.xc.ackie = s.xc.ackie :=
  congrArg (·.xc.ackie) (tryLoad_frame s)
@[simp] theorem tryLoad_rxf : s.tryLoad.xc.rxf = s.xc.rxf := congrArg (·.xc.rxf) (tryLoad_frame s)
@[simp] theorem tryLoad_lineOk : s.tryLoad.xc.lineOk = s.xc.lineOk :=
  congrArg (·.xc.lineOk) (tryLoad_frame s)
@[simp] theorem tryLoad_configured : s.tryLoad.xc.configured = s.xc.configured :=
  congrArg (·.xc.configured) (tryLoad_frame s)

end

/-- The one case in which a load happens. -/
theorem tryLoad_loads {s : State} {b : Byte} (htxh : s.xc.txh = some b) (hsh : s.xc.sh = none)
    (hen : (s.xc.txen && s.xc.lineOk) = true) :
    s.tryLoad = { s with
      xc := { s.xc with txh := none, sh := some (b, s.now + s.cfg.byteUs) }
      wire := s.wire ++ [.shift s.now s.xc.port s.xc.attn b] } := by
  obtain ⟨-, h | h | h⟩ | ⟨b', hb', -, -, h⟩ := tryLoad_cases s
  · simp [htxh] at h
  · simp [hsh] at h
  · simp [hen] at h
  · obtain rfl : b = b' := by simpa [htxh] using hb'
    exact h

theorem tryLoad_idle {s : State}
    (h : s.xc.txh = none ∨ s.xc.sh.isSome = true ∨ (s.xc.txen && s.xc.lineOk) = false) :
    s.tryLoad = s := by
  obtain ⟨hs, -⟩ | ⟨b, htxh, hsh, hen, -⟩ := tryLoad_cases s
  · exact hs
  · rcases h with h | h | h
    · simp [htxh] at h
    · simp [hsh] at h
    · simp [hen] at h

/-! ### The writes of MODE, BAUD and CTRL (R128, R130, R132) -/

theorem merge_modeWord (l : WLane) (x : Xcvr) :
    merge l (modeWord x) = BitVec.ofNat 16 (merged l (modeValue x)) := by
  rw [merge_eq_merged, modeWord_toNat, modeValue]

/-- MULT and CHLEN are the two low pairs of bits of the value written (R31). -/
theorem modeFields (n : Nat) :
    (BitVec.ofNat 16 n).setWidth 2 = BitVec.ofNat 2 n ∧
      (BitVec.ofNat 16 n >>> 2).setWidth 2 = BitVec.ofNat 2 (n / 4) := by
  constructor <;> apply BitVec.eq_of_toNat_eq <;>
    simp only [BitVec.toNat_setWidth, BitVec.toNat_ushiftRight, BitVec.toNat_ofNat,
      Nat.shiftRight_eq_div_pow] <;> omega

theorem exec_wrMode_idle (l : WLane) {s : State} (hb : s.busy = false) :
    exec (.wrMode l) s = .next (State.tryLoad { s with xc := { s.xc with
      mult := BitVec.ofNat 2 (merged l (modeValue s.xc))
      chlen := BitVec.ofNat 2 (merged l (modeValue s.xc) / 4) } }) := by
  change execWrMode l s = _
  rw [execWrMode, wrote_idle hb, merge_modeWord, (modeFields _).1, (modeFields _).2]

theorem exec_wrBaud_idle (l : WLane) {s : State} (hb : s.busy = false) :
    exec (.wrBaud l) s = .next (State.tryLoad { s with xc := { s.xc with
      baud := BitVec.ofNat 16 (merged l s.xc.baud.toNat) } }) := by
  change execWrBaud l s = _
  rw [execWrBaud, wrote_idle hb, merge_eq_merged]

/-- The Attn events of any change: the old line's fall, then the new line's rise (R174). -/
theorem attnEvents_eq (now : Tick) (a a' : Bool) (p p' : Port) :
    attnEvents now a p a' p' =
      (if a = true ∧ (a' = false ∨ p' ≠ p) then [.attn now p false] else []) ++
      (if a' = true ∧ (a = false ∨ p' ≠ p) then [.attn now p' true] else []) := by
  cases a <;> cases a' <;> cases p <;> cases p' <;> rfl

theorem writeCtrl_of_reset (s : State) {v : Half} (h : v.getLsbD 6 = true) :
    s.writeCtrl v = { s with
      xc := Xcvr.reset
      wire := s.wire ++ (if s.xc.attn then [.attn s.now s.xc.port false] else []) } := by
  rw [State.writeCtrl, if_pos h, ← Primitives.attnEvents_deassert s.now s.xc.attn s.xc.port .port0]
  rfl

theorem writeCtrl_of_not_reset (s : State) {v : Half} (h : v.getLsbD 6 = false) :
    s.writeCtrl v = State.tryLoad { s with
      xc := { s.xc with
        txen := v.getLsbD 0
        attn := v.getLsbD 1
        rxen := v.getLsbD 2
        ackie := v.getLsbD 12
        port := portOfBit (v.getLsbD 13)
        irq := s.xc.irq && !v.getLsbD 4
        rxovr := s.xc.rxovr && !v.getLsbD 4 }
      wire := s.wire ++
        attnEvents s.now s.xc.attn s.xc.port (v.getLsbD 1) (portOfBit (v.getLsbD 13)) } := by
  rw [State.writeCtrl, if_neg (by simp only [h, Bool.false_eq_true, not_false_eq_true])]
  cases v.getLsbD 4
  · simp only [Bool.not_false, Bool.and_true]
    rfl
  · simp only [Bool.not_true, Bool.and_false]
    rfl

/-- A write of the high byte alone has no pulse bit: the low byte's bits 4 and 6 read 0 (R127). -/
theorem merged_hi_ctrlValue_testBit (b : Byte) (x : Xcvr) {k : Nat} (hk : k = 4 ∨ k = 6) :
    (merged (.hi b) (ctrlValue x)).testBit k = false := by
  have hword : (merged (.hi b) (ctrlValue x)).testBit k = (ctrlWord x).getLsbD k := by
    rw [← Transceiver.merge_ctrlWord_getLsbD _ _ (by omega), merge,
      CommandLayer.halfOf_getLsbD _ _ (by omega), if_pos (by omega), loByte, BitVec.getLsbD_setWidth]
    simp [show k < 8 by omega]
  rw [hword, ctrlWord]
  rcases hk with rfl | rfl <;>
    cases x.port <;> cases x.ackie <;> cases x.rxen <;> cases x.attn <;> cases x.txen <;> rfl

/-! ### The writes of DATA (R123) -/

theorem lineOk_of (x : Xcvr) (h : LineOk x) : x.lineOk = true := (lineOk_iff x).mpr h

theorem lineOk_eq_false (x : Xcvr) : x.lineOk = false ↔ ¬ LineOk x := by
  rw [← Bool.not_eq_true, lineOk_iff]

/-- The byte of a write of DATA is its low byte, at either width. -/
theorem dataLow_eq {d : WData} {b : Byte}
    (h : d = .w8 b ∨ ∃ v, d = .w16 v ∧ b = BitVec.ofNat 8 v.toNat) : dataLow d = b := by
  obtain rfl | ⟨v, rfl, rfl⟩ := h
  · rfl
  · exact Primitives.loByte_eq_ofNat v

theorem exec_wrData_full (d : WData) {s : State} (hb : s.busy = false) (hl : s.xc.lineOk = true)
    (h : s.xc.txh.isSome = true) : exec (.wrData d) s = .next { s with aerr := true } := by
  obtain ⟨hx, -⟩ | ⟨-, hx, -⟩ | ⟨-, -, -, heq⟩ | ⟨-, -, hx, -⟩ := execWrData_cases d s
  · simp [hb] at hx
  · simp [hl] at hx
  · exact heq
  · simp [hx] at h

theorem exec_wrData_empty (d : WData) {s : State} (hb : s.busy = false) (hl : s.xc.lineOk = true)
    (h : s.xc.txh = none) : exec (.wrData d) s =
      .next (State.tryLoad { s with xc := { s.xc with txh := some (dataLow d) } }) := by
  obtain ⟨hx, -⟩ | ⟨-, hx, -⟩ | ⟨-, -, hx, -⟩ | ⟨-, -, -, heq⟩ := execWrData_cases d s
  · simp [hb] at hx
  · simp [hl] at hx
  · simp [h] at hx
  · exact heq

/-! ### The buffers (R61, R151, R152) -/

theorem halfOf_eq_twoBytes (l h : Byte) : halfOf l h = twoBytes l h := by
  apply BitVec.eq_of_toNat_eq
  have := l.isLt
  have := h.isLt
  rw [halfOf_toNat, twoBytes, BitVec.toNat_ofNat]
  omega

theorem hiByte_eq_ofNat (v : Half) : hiByte v = BitVec.ofNat 8 (v.toNat / 256) := by
  apply BitVec.eq_of_toNat_eq
  have := v.isLt
  rw [hiByte_toNat, BitVec.toNat_ofNat]
  omega

/-- The index after an even one is still within the buffer. -/
theorem succ_lt_of_even {k : BitVec 6} (h : k.getLsbD 0 = false) : k.toNat + 1 < 64 := by
  revert k
  decide

/-- A map from indices to the window offsets of a buffer at `base`. -/
structure BufferAt (bufAt : Nat → Nat) (base : Nat) : Prop where
  at_lt : ∀ k < 64, bufAt k = base + k

theorem reqbufAt_buffer : BufferAt reqbufAt 0x40 := ⟨fun k hk => by rw [reqbufAt, Nat.mod_eq_of_lt hk]⟩
theorem respbufAt_buffer : BufferAt respbufAt 0x80 := ⟨fun k hk => by rw [respbufAt, Nat.mod_eq_of_lt hk]⟩
theorem pktAt_buffer : BufferAt pktAt 0xC0 := ⟨fun k hk => by rw [pktAt, Nat.mod_eq_of_lt hk]⟩

section

variable {bufAt : Nat → Nat} {base : Nat} (h : BufferAt bufAt base) (s : State) (k : BitVec 6)

include h

theorem reply_bufferRead_w8 : s.reply (s.bufferRead bufAt .w8 k) =
    .next { s with rdata := BitVec.ofNat 16 (s.readByte (base + k.toNat)).toNat } := by
  rw [State.bufferRead, reply_byte, h.at_lt _ k.isLt]

theorem reply_bufferRead_w16 (heven : k.getLsbD 0 = false) : s.reply (s.bufferRead bufAt .w16 k) =
    .next { s with
      rdata := twoBytes (s.readByte (base + k.toNat)) (s.readByte (base + (k.toNat + 1))) } := by
  rw [State.bufferRead, reply_eq, halfOf_eq_twoBytes, h.at_lt _ k.isLt,
    h.at_lt _ (succ_lt_of_even heven)]

theorem readByte_bufferWrite_w8 (b : Byte) (a : Nat) :
    (s.bufferWrite bufAt (.w8 b) k).readByte a = if a = base + k.toNat then b else s.readByte a := by
  rw [State.bufferWrite, readByte_writeByte, h.at_lt _ k.isLt]

theorem readByte_bufferWrite_w16 (heven : k.getLsbD 0 = false) (v : Half) (a : Nat) :
    (s.bufferWrite bufAt (.w16 v) k).readByte a =
      if a = base + k.toNat then BitVec.ofNat 8 v.toNat
      else if a = base + k.toNat + 1 then BitVec.ofNat 8 (v.toNat / 256)
      else s.readByte a := by
  rw [State.bufferWrite, readByte_writeByte, readByte_writeByte, h.at_lt _ k.isLt,
    h.at_lt _ (succ_lt_of_even heven), Primitives.loByte_eq_ofNat, hiByte_eq_ofNat, ← add_assoc]
  by_cases h0 : a = base + k.toNat
  · rw [if_neg (by omega), if_pos h0, if_pos h0]
  · rw [if_neg h0, if_neg h0]

end

theorem bufferWrite_frame (s : State) (bufAt : Nat → Nat) (d : WData) (k : BitVec 6) :
    s.bufferWrite bufAt d k = { s with mem := (s.bufferWrite bufAt d k).mem } := by
  cases d <;> rfl

/-! ### The busy filter (R121) -/

/-- Every filtered write is guarded: while BUSY it raises WERR and does nothing else. -/
theorem exec_filtered_busy {i : Instr} (h : filteredWrite i = true) {s : State}
    (hb : s.busy = true) : exec i s = .next { s with werr := true } := by
  cases i with
  | misalign16 a | unmapped a | rz01 a | rz21 a | rz29 a | wide24 a | wide26 a =>
    cases a with
    | read => cases h
    | write => exact wrote_busy hb _
  | wrData => exact if_pos hb
  | wrStat | wrMode | wrCtrl | wrBaud | wrIstat | wrScmd | wrSaddr | wrSarg | wrSreqlen | wrSmaxresp
  | wrSresplen | wrSresult | wrStimeout | wrReqbuf | wrRespbuf | wrPkt | init | select | waitack
  | xbyte | xchg | xnoack | poll | probe | bcast | reservedCmd => exact wrote_busy hb _
  | rdData | rdStat | rdMode | rdCtrl | rdBaud | rdIstat | rdScmd | rdSstat | wrSstat | rdSaddr
  | rdSarg | rdSreqlen | rdSmaxresp | rdSresplen | rdSresult | rdStimeout | rdReqbuf | rdRespbuf
  | rdPkt => cases h

/-! ### Every instruction's answer (R27, R304) -/

theorem exec_wrSstat_next (l : WLane) (s : State) :
    ∃ w a, exec (.wrSstat l) s = .next { s with werr := w, aerr := a } := by
  cases l with
  | lo => exact ⟨s.werr, s.aerr, rfl⟩
  | hi => exact ⟨_, _, rfl⟩
  | whole => exact ⟨_, _, rfl⟩

/-- An access that is not a filtered write changes no more than the error bits and the value read, but
for a read of DATA by an idle host. -/
theorem exec_unfiltered {i : Instr} (h : filteredWrite i = false) (s : State)
    (hd : ∀ w, i = .rdData w → s.busy = true) :
    ∃ w a x, exec i s = .next { s with werr := w, aerr := a, rdata := x } := by
  cases i with
  | misalign16 a | unmapped a | rz01 a | rz21 a | rz29 a | wide24 a | wide26 a =>
    cases a with
    | read => exact ⟨s.werr, _, 0, rfl⟩
    | write => cases h
  | rdStat | rdMode | rdCtrl | rdBaud | rdIstat | rdScmd | rdSstat | rdSaddr | rdSarg | rdSreqlen
  | rdSmaxresp | rdSresplen | rdSresult | rdStimeout | rdReqbuf | rdRespbuf | rdPkt =>
    exact ⟨s.werr, s.aerr, _, rfl⟩
  | rdData w => exact ⟨true, s.aerr, 0, exec_rdData_busy w (hd w rfl)⟩
  | wrSstat l =>
    obtain ⟨w, a, h⟩ := exec_wrSstat_next l s
    exact ⟨w, a, s.rdata, h⟩
  | wrData | wrStat | wrMode | wrCtrl | wrBaud | wrIstat | wrScmd | wrSaddr | wrSarg | wrSreqlen
  | wrSmaxresp | wrSresplen | wrSresult | wrStimeout | wrReqbuf | wrRespbuf | wrPkt | init | select
  | waitack | xbyte | xchg | xnoack | poll | probe | bcast | reservedCmd => cases h

/-- A guarded write completes, BUSY or not, and every filtered write but that of DATA is one. -/
theorem exec_filtered_completes {i : Instr} (h : filteredWrite i = true) (hd : ∀ d, i ≠ .wrData d)
    (s : State) : ∃ t, exec i s = .next t := by
  cases i with
  | misalign16 a | unmapped a | rz01 a | rz21 a | rz29 a | wide24 a | wide26 a =>
    cases a with
    | read => cases h
    | write => exact wrote_completes s _
  | wrData d => exact absurd rfl (hd d)
  | wrStat | wrMode | wrCtrl | wrBaud | wrIstat | wrScmd | wrSaddr | wrSarg | wrSreqlen | wrSmaxresp
  | wrSresplen | wrSresult | wrStimeout | wrReqbuf | wrRespbuf | wrPkt | init | select | waitack
  | xbyte | xchg | xnoack | poll | probe | bcast | reservedCmd => exact wrote_completes s _
  | rdData | rdStat | rdMode | rdCtrl | rdBaud | rdIstat | rdScmd | rdSstat | wrSstat | rdSaddr
  | rdSarg | rdSreqlen | rdSmaxresp | rdSresplen | rdSresult | rdStimeout | rdReqbuf | rdRespbuf
  | rdPkt => cases h

/-- A read of DATA always answers. -/
theorem exec_rdData_completes (w : Width) (s : State) : ∃ t, exec (.rdData w) s = .next t := by
  cases hb : s.busy with
  | true => exact ⟨_, exec_rdData_busy w hb⟩
  | false =>
    cases hf : s.xc.rxf with
    | nil => exact ⟨_, exec_rdData_empty w hb hf⟩
    | cons => exact ⟨_, exec_rdData_pop w hb hf⟩

/-! ### The obligations -/

/-- Settles O43: the one case of a load, and the four in which there is none. -/
theorem loadOfTheShifter : Obligations.LoadOfTheShifter := by
  refine fun s => ⟨fun b htxh hsh hen hl => ?loads, fun h => tryLoad_idle ?idle⟩
  case loads => exact tryLoad_loads htxh hsh (by simp [hen, lineOk_of _ hl])
  case idle =>
    obtain h | h | h | h := h
    · exact .inl h
    · exact .inr (.inl h)
    · exact .inr (.inr (by simp [h]))
    · exact .inr (.inr (by simp [(lineOk_eq_false _).mpr h]))

/-- Settles O24: the two guarded writes, in the statements' numbers. -/
theorem modeAndBaudWrites : Obligations.ModeAndBaudWrites := fun l _ hb =>
  ⟨exec_wrMode_idle l hb, exec_wrBaud_idle l hb⟩

/-- Settles O25: the merged value's bits, the reset of bit 6, the fields and events without it, and the
busy filter. -/
theorem ctrlWrites : Obligations.CtrlWrites := by
  intro l s v port
  have hbit {k : Nat} (hk : k < 16) : (merge l (ctrlWord s.xc)).getLsbD k = v.testBit k :=
    Transceiver.merge_ctrlWord_getLsbD l s.xc hk
  refine ⟨fun hb h6 => ?reset, fun hb h6 => ?fields, ?high, fun hb => exec_filtered_busy rfl hb⟩
  case reset =>
    rw [Transceiver.exec_wrCtrl_idle l hb, writeCtrl_of_reset s ((hbit (by decide)).trans h6)]
  case fields =>
    rw [Transceiver.exec_wrCtrl_idle l hb, writeCtrl_of_not_reset s ((hbit (by decide)).trans h6),
      hbit (by decide), hbit (by decide), hbit (by decide), hbit (by decide), hbit (by decide),
      hbit (by decide), attnEvents_eq, ← List.append_assoc]
    rfl
  case high =>
    rintro b rfl
    exact ⟨merged_hi_ctrlValue_testBit b s.xc (.inr rfl),
      merged_hi_ctrlValue_testBit b s.xc (.inl rfl)⟩

/-- Settles O26: bit 7 of a written low byte, at either width. -/
theorem istatWrites : Obligations.IstatWrites := by
  refine fun b h s hb => ⟨Transceiver.exec_wrIstat_lo_idle b hb, ?whole, wrote_idle hb s⟩
  case whole =>
    change s.wrote { s with ack := s.ack && (loByte h).getLsbD 7 } = _
    rw [wrote_idle hb, loByte, BitVec.getLsbD_setWidth]
    rfl

/-- Settles O28: the full holding register drops the byte; otherwise it is held, and TryLoad decides. -/
theorem dataWrites : Obligations.DataWrites := by
  intro d b s hb hl hd
  have hline := lineOk_of _ hl
  refine ⟨exec_wrData_full d hb hline, fun htxh hen hsh => ?shifts, fun htxh h => ?held⟩
  case shifts =>
    have hload := tryLoad_loads (s := { s with xc := { s.xc with txh := some b } }) rfl hsh
      (show (s.xc.txen && s.xc.lineOk) = true by simp [hen, hline])
    rw [exec_wrData_empty d hb hline htxh, dataLow_eq hd, hload, ← htxh]
  case held =>
    rw [exec_wrData_empty d hb hline htxh, dataLow_eq hd, tryLoad_idle]
    obtain h | h := h
    · exact .inr (.inr (show (s.xc.txen && s.xc.lineOk) = false by simp [h]))
    · exact .inr (.inl h)

/-- Settles O29: of the four cases of a write of DATA one is a refusal, and its conditions are these. -/
theorem dataWriteRefusedExactlyWithoutLine : Obligations.DataWriteRefusedExactlyWithoutLine := by
  intro d s
  rw [← lineOk_eq_false]
  change (execWrData d s = _ ↔ _) ∧ ∀ r, execWrData d s = _ → _
  obtain ⟨hb, h⟩ | ⟨hb, hl, h⟩ | ⟨-, hl, -, h⟩ | ⟨-, hl, -, h⟩ := execWrData_cases d s <;> rw [h]
  · exact ⟨⟨nofun, fun hx => by simp [hb] at hx⟩, nofun⟩
  · exact ⟨⟨fun _ => ⟨hb, hl⟩, fun _ => rfl⟩, fun r hr => by injection hr with hr; exact hr.symm⟩
  · exact ⟨⟨nofun, fun hx => by simp [hl] at hx⟩, nofun⟩
  · exact ⟨⟨nofun, fun hx => by simp [hl] at hx⟩, nofun⟩

/-- Settles O31: the bytes stored and read back, for either buffer's offsets. -/
theorem bufferWrites : Obligations.BufferWrites := by
  intro b h k s hb i base hi
  obtain ⟨bufAt, hbuf, hexec⟩ : ∃ bufAt, BufferAt bufAt base ∧
      ∀ d, exec (i d k) s = .next (s.bufferWrite bufAt d k) := by
    obtain ⟨rfl, rfl⟩ | ⟨rfl, rfl⟩ := hi
    · exact ⟨reqbufAt, reqbufAt_buffer, fun d => wrote_idle hb _⟩
    · exact ⟨respbufAt, respbufAt_buffer, fun d => wrote_idle hb _⟩
  exact ⟨⟨_, hexec _, bufferWrite_frame .., readByte_bufferWrite_w8 hbuf s k b⟩,
    fun heven => ⟨_, hexec _, bufferWrite_frame .., readByte_bufferWrite_w16 hbuf s k heven h⟩⟩

/-- Settles O19: the bytes at the buffer's offsets, for each of the three. -/
theorem bufferReads : Obligations.BufferReads := fun k s =>
  ⟨reply_bufferRead_w8 reqbufAt_buffer s k, reply_bufferRead_w8 respbufAt_buffer s k,
    reply_bufferRead_w8 pktAt_buffer s k, fun heven =>
      ⟨reply_bufferRead_w16 reqbufAt_buffer s k heven, reply_bufferRead_w16 respbufAt_buffer s k heven,
        reply_bufferRead_w16 pktAt_buffer s k heven⟩⟩

/-- Settles O15: the busy filter of the writes, and the read of DATA that shares it. -/
theorem busyFilterRaisesWerr : Obligations.BusyFilterRaisesWerr := fun _ hb =>
  ⟨fun _ h => exec_filtered_busy h hb, fun w => exec_rdData_busy w hb⟩

/-- Settles O14: a filtered write raises WERR, and every other access changes no more than these. -/
theorem busyHostChangesOnlyErrorBits : Obligations.BusyHostChangesOnlyErrorBits := by
  intro i s hb
  cases h : filteredWrite i with
  | true => exact ⟨true, s.aerr, s.rdata, exec_filtered_busy h hb⟩
  | false => exact exec_unfiltered h s fun _ _ => hb

/-- Settles O30: a filtered write is guarded, a read of DATA has its three answers, and every other
access answers. -/
theorem everyOtherInstructionCompletes : Obligations.EveryOtherInstructionCompletes := by
  intro i s hd
  cases h : filteredWrite i with
  | true => exact exec_filtered_completes h hd s
  | false =>
    by_cases hr : ∃ w, i = .rdData w
    · obtain ⟨w, rfl⟩ := hr
      exact exec_rdData_completes w s
    · obtain ⟨_, _, _, ht⟩ := exec_unfiltered h s fun w hw => absurd ⟨w, hw⟩ hr
      exact ⟨_, ht⟩

end Sys2Proof.HostWrites
end

section
/-! PROOFS. Command bodies action by action: everything one action can do, as one inversion; the rank that
every action lowers, so that a body comes to rest within the model's bound; a body run without the
bound; and how a property of its points is carried to where it rests. -/

namespace Sys2Proof.Bodies

open Sys2Proof.Machine Sys2Proof.Claims Sys2Proof.HostWrites

/-! ### What a write of PKT leaves (R261, R263, R265) -/

section

variable (s : State) (k : Nat) (bytes : List Byte)

@[simp] theorem writePkt_cfg : (s.writePkt k bytes).cfg = s.cfg :=
  congrArg (·.cfg) (writePkt_eq s k bytes)
@[simp] theorem writePkt_now : (s.writePkt k bytes).now = s.now :=
  congrArg (·.now) (writePkt_eq s k bytes)
@[simp] theorem writePkt_xc : (s.writePkt k bytes).xc = s.xc :=
  congrArg (·.xc) (writePkt_eq s k bytes)
@[simp] theorem writePkt_seq : (s.writePkt k bytes).seq = s.seq :=
  congrArg (·.seq) (writePkt_eq s k bytes)
@[simp] theorem writePkt_st : (s.writePkt k bytes).st = s.st :=
  congrArg (·.st) (writePkt_eq s k bytes)
@[simp] theorem writePkt_busy : (s.writePkt k bytes).busy = s.busy :=
  congrArg (·.busy) (writePkt_eq s k bytes)
@[simp] theorem writePkt_done : (s.writePkt k bytes).done = s.done :=
  congrArg (·.done) (writePkt_eq s k bytes)
@[simp] theorem writePkt_err : (s.writePkt k bytes).err = s.err :=
  congrArg (·.err) (writePkt_eq s k bytes)
@[simp] theorem writePkt_wire : (s.writePkt k bytes).wire = s.wire :=
  congrArg (·.wire) (writePkt_eq s k bytes)
@[simp] theorem writePkt_resets : (s.writePkt k bytes).resets = s.resets :=
  congrArg (·.resets) (writePkt_eq s k bytes)

end

/-! ### Everything one action can do (R201 to R209, R230, R235, R261 to R265) -/

/-- XB's byte handed to the transmitter (R202). -/
def sent (s : State) : State := State.tryLoad { s with xc := { s.xc with txh := some s.seq.xbByte } }

/-- The presence mask after PROBE's exchange on a port, in the model's words (R263). -/
def presenceMask (s : State) : BitVec 2 :=
  if s.present then s.seq.presence ||| portMask s.seq.loopPort else s.seq.presence

/-- The commands that run a packet routine, which alone POST returns to. -/
def packetCommand (c : Option Cmd) : Bool :=
  match c with
  | some .xchg | some .poll | some .probe | some .xnoack | some .bcast => true
  | _ => false

/-- The states in which a byte exchange returns. -/
def SeqState.exchanging (st : SeqState) : Bool :=
  match st with
  | .byteCmd | .addr | .xfer | .naByte => true
  | _ => false

/-- From `s` an action leads to a state, and to the next action unless the body rests: one case for each
line of the bodies. -/
inductive Did (s : State) : Act → State → Option Act → Prop where
  | xpStart_pass (h : s.cfg.tPreUs = 0) : Did s .xpStart (s.enter .pre) (some .preDone)
  | xpStart_wait (h : s.cfg.tPreUs ≠ 0) :
      Did s .xpStart ((s.enter .pre).suspend (.untilTick (s.now + s.cfg.tPreUs))) none
  | preDone :
      Did s .preDone (((s.clearLatches.driveAttn true s.xc.port).enter .settle).suspend
        (.untilTick (s.now + 150))) none
  | settleDone : Did s .settleDone (s.enter .addr) (some (.xbBegin s.seq.addr))
  | xpNext_request (hn : s.seq.n < s.seq.cap) (hrl : 0 < s.seq.rl) :
      Did s .xpNextByte
        { s.enter .xfer with seq := { s.seq with i := s.seq.i + 1, rl := s.seq.rl - 1 } }
        (some (.xbBegin (s.srcByte s.seq.i)))
  | xpNext_filler (hn : s.seq.n < s.seq.cap) (hrl : s.seq.rl = 0) :
      Did s .xpNextByte (s.enter .xfer) (some (.xbBegin 0x00))
  | xpNext_full (hn : s.seq.cap ≤ s.seq.n) : Did s .xpNextByte s (some .trail)
  | xnaStart :
      Did s .xnaStart
        { (s.driveAttn true s.xc.port).enter .naByte with
          seq := { s.seq with i := 0, rl := s.seq.rl0 } }
        (some (.xbBegin s.seq.addr))
  | xnaNext_request (hrl : 0 < s.seq.rl) :
      Did s .xnaNextByte
        { s.enter .naByte with seq := { s.seq with i := s.seq.i + 1, rl := s.seq.rl - 1 } }
        (some (.xbBegin (s.srcByte s.seq.i)))
  | xnaNext_done (hrl : s.seq.rl = 0) : Did s .xnaNextByte s (some .trail)
  | trail_pass (h : s.cfg.tTrailUs = 0) : Did s .trail (s.enter .trail) (some .trailDone)
  | trail_wait (h : s.cfg.tTrailUs ≠ 0) :
      Did s .trail ((s.enter .trail).suspend (.untilTick (s.now + s.cfg.tTrailUs))) none
  | trailDone_pass (h : s.cfg.tPostUs = 0) :
      Did s .trailDone ((s.driveAttn false s.xc.port).enter .post) (some .postDone)
  | trailDone_wait (h : s.cfg.tPostUs ≠ 0) :
      Did s .trailDone (((s.driveAttn false s.xc.port).enter .post).suspend
        (.untilTick (s.now + s.cfg.tPostUs))) none
  | xchg_end (hc : s.seq.cur = some .xchg) :
      Did s .postDone (State.endCommand { s with sresplen := BitVec.ofNat 8 s.seq.n }) none
  | poll_end (hc : s.seq.cur = some .poll) :
      Did s .postDone (State.endCommand { s with
        sresplen := BitVec.ofNat 8 s.seq.n, sresult := s.pollResult }) none
  | probe_again (hc : s.seq.cur = some .probe) (hp : s.seq.loopPort = .port0) :
      Did s .postDone { s with
        sresplen := BitVec.ofNat 8 s.seq.n
        seq := { s.seq with presence := presenceMask s, loopPort := .port1 } } (some .probePort)
  | probe_end (hc : s.seq.cur = some .probe) (hp : s.seq.loopPort = .port1) :
      Did s .postDone (State.endCommand { s with
        sresplen := BitVec.ofNat 8 s.seq.n
        sresult := (presenceMask s).setWidth 16
        seq := { s.seq with presence := presenceMask s } }) none
  | xnoack_end (hc : s.seq.cur = some .xnoack) :
      Did s .postDone (State.endCommand { s with sresplen := 0x00 }) none
  | bcast_again (hc : s.seq.cur = some .bcast) (hp : s.seq.loopPort = .port0) :
      Did s .postDone { s with seq := { s.seq with loopPort := .port1 } } (some .bcastPort)
  | bcast_end (hc : s.seq.cur = some .bcast) (hp : s.seq.loopPort = .port1) :
      Did s .postDone (State.endCommand { s with sresult := 0x0000, sresplen := 0x00 }) none
  | packet_none (hc : packetCommand s.seq.cur = false) : Did s .postDone s none
  | probePort :
      Did s .probePort ((s.driveAttn s.xc.attn s.seq.loopPort).buildProbePkt.routineArgs
        s.cfg.addrCard .pkt 5 5) (some .xpStart)
  | bcastPort_send (h : inMask s.seq.mask s.seq.loopPort = true) :
      Did s .bcastPort (s.driveAttn s.xc.attn s.seq.loopPort) (some .xnaStart)
  | bcastPort_again (h : inMask s.seq.mask s.seq.loopPort = false) (hp : s.seq.loopPort = .port0) :
      Did s .bcastPort { s with seq := { s.seq with loopPort := .port1 } } (some .bcastPort)
  | bcastPort_end (h : inMask s.seq.mask s.seq.loopPort = false) (hp : s.seq.loopPort = .port1) :
      Did s .bcastPort (State.endCommand { s with sresult := 0x0000, sresplen := 0x00 }) none
  | xbBegin_give (v : Byte) (h : s.xc.txh = none) :
      Did s (.xbBegin v) { s with seq := { s.seq with xbByte := v } } (some .xbSend)
  | xbBegin_wait (v : Byte) (h : s.xc.txh.isSome = true) :
      Did s (.xbBegin v) (State.suspend { s with seq := { s.seq with xbByte := v } } .txReady) none
  | xbSend : Did s .xbSend (sent s) (some .xbReceive)
  | xbReceive_wait (h : s.xc.rxf = []) : Did s .xbReceive (s.suspend .rxReady) none
  | xbReceive_take (r : Byte) (rest : List Byte) (h : s.xc.rxf = r :: rest) :
      Did s .xbReceive { s with xc := { s.xc with rxf := rest } } (some (.xbReturn r))
  | reply_byteCmd (r : Byte) (h : s.st = .byteCmd) :
      Did s (.xbReturn r) (State.endCommand { s with sresult := r.setWidth 16 }) none
  | reply_addr (r : Byte) (h : s.st = .addr) :
      Did s (.xbReturn r) (s.enter .addrAck) (some (.waitBegin 120))
  | reply_xfer (r : Byte) (h : s.st = .xfer) :
      Did s (.xbReturn r)
        (State.enter { s.writeByte (respbufAt s.seq.n) r with
          seq := { s.seq with n := s.seq.n + 1 } } .dataAck) (some (.waitBegin 120))
  | reply_naAddr (r : Byte) (h : s.st = .naByte) (hi : s.seq.i = 0) :
      Did s (.xbReturn r) s.flush (some .xnaNextByte)
  | reply_naByte_pass (r : Byte) (h : s.st = .naByte) (hi : s.seq.i ≠ 0) (hd : s.cfg.tIbdUs = 0) :
      Did s (.xbReturn r) (s.enter .naIbd) (some .xnaNextByte)
  | reply_naByte_wait (r : Byte) (h : s.st = .naByte) (hi : s.seq.i ≠ 0) (hd : s.cfg.tIbdUs ≠ 0) :
      Did s (.xbReturn r) ((s.enter .naIbd).suspend (.untilTick (s.now + s.cfg.tIbdUs))) none
  | reply_none (r : Byte) (h : SeqState.exchanging s.st = false) : Did s (.xbReturn r) s none
  | waitBegin (b : Nat) :
      Did s (.waitBegin b) { s with seq := { s.seq with rem := b } } (some .waitCheck)
  | waitCheck_late (h : s.seq.rem ≤ 0) : Did s .waitCheck s (some (.waitReturn false))
  | waitCheck_caught (h : 0 < s.seq.rem) (ha : s.ack = true) :
      Did s .waitCheck s.clearLatches (some (.waitReturn true))
  | waitCheck_again (h : 0 < s.seq.rem) (ha : s.ack = false) :
      Did s .waitCheck (s.suspend (.untilTick (s.now + 10))) none
  | waitSlept :
      Did s .waitSlept { s with seq := { s.seq with rem := s.seq.rem - 10 } } (some .waitCheck)
  | waited_waitCmd (ok : Bool) (h : s.st = .waitCmd) :
      Did s (.waitReturn ok)
        (State.endCommand { s with sresult := if ok then 0x0001 else 0x0000 }) none
  | waited_addr (h : s.st = .addrAck) :
      Did s (.waitReturn true)
        (State.flush { s with seq := { s.seq with n := 0, i := 0, rl := s.seq.rl0 } })
        (some .xpNextByte)
  | waited_noAddr (h : s.st = .addrAck) :
      Did s (.waitReturn false) { s with seq := { s.seq with n := 0, i := 0, rl := s.seq.rl0 } }
        (some .trail)
  | waited_data (h : s.st = .dataAck) : Did s (.waitReturn true) s (some .xpNextByte)
  | waited_noData (h : s.st = .dataAck) : Did s (.waitReturn false) s (some .trail)
  | waited_none (ok : Bool) (h : SeqState.polls s.st = false) : Did s (.waitReturn ok) s none

theorem did_delay {s u : State} {d : Nat} {a k : Act} (pass : d = 0 → Did s a u (some k))
    (wait : d ≠ 0 → Did s a (u.suspend (.untilTick (u.now + d))) none) :
    Did s a (u.delayThen d k).1 (u.delayThen d k).2 := by
  unfold State.delayThen
  split_ifs with h
  · exact pass h
  · exact wait h

/-- PROBE after a port, with the mask in one field (R263). -/
theorem probeNext_eq (s : State) : s.probeNext =
    match s.seq.loopPort with
    | .port0 => ({ s with seq := { s.seq with presence := presenceMask s, loopPort := .port1 } },
        some .probePort)
    | .port1 => (State.endCommand { s with
        sresult := (presenceMask s).setWidth 16, seq := { s.seq with presence := presenceMask s } },
        none) := by
  have hmask : (if s.present then
      { s with seq := { s.seq with presence := s.seq.presence ||| portMask s.seq.loopPort } } else s) =
      { s with seq := { s.seq with presence := presenceMask s } } := by
    unfold presenceMask
    split_ifs <;> rfl
  rw [State.probeNext, hmask] <;> rfl

theorem did_afterPacket (s : State) : Did s .postDone s.afterPacket.1 s.afterPacket.2 := by
  unfold State.afterPacket
  simp only
  split
  case h_1 hc => exact .xchg_end hc
  case h_2 hc => exact .poll_end hc
  case h_3 hc =>
    rw [probeNext_eq]
    split
    · next hp => exact .probe_again hc hp
    · next hp => exact .probe_end hc hp
  case h_4 hc => exact .xnoack_end hc
  case h_5 hc =>
    unfold State.bcastNext
    split
    · next hp => exact .bcast_again hc hp
    · next hp => exact .bcast_end hc hp
  case h_6 h1 h2 h3 h4 h5 =>
    refine .packet_none ?_
    unfold packetCommand
    split <;> simp_all

theorem did_afterXb (s : State) (r : Byte) : Did s (.xbReturn r) (s.afterXb r).1 (s.afterXb r).2 := by
  unfold State.afterXb
  split
  case h_1 h => exact .reply_byteCmd r h
  case h_2 h => exact .reply_addr r h
  case h_3 h => exact .reply_xfer r h
  case h_4 h =>
    split_ifs with hi
    · exact .reply_naAddr r h hi
    · exact did_delay (.reply_naByte_pass r h hi) (.reply_naByte_wait r h hi)
  case h_5 h1 h2 h3 h4 =>
    refine .reply_none r ?_
    unfold SeqState.exchanging
    split <;> simp_all

theorem did_afterWait (s : State) (ok : Bool) :
    Did s (.waitReturn ok) (s.afterWait ok).1 (s.afterWait ok).2 := by
  unfold State.afterWait
  split
  case h_1 h => exact .waited_waitCmd ok h
  case h_2 h =>
    cases ok with
    | true => exact .waited_addr h
    | false => exact .waited_noAddr h
  case h_3 h =>
    cases ok with
    | true => exact .waited_data h
    | false => exact .waited_noData h
  case h_4 h1 h2 h3 =>
    refine .waited_none ok ?_
    unfold SeqState.polls
    split <;> simp_all

/-- What an action does is one of these cases. -/
theorem did_act (a : Act) (s : State) : Did s a (act a s).1 (act a s).2 := by
  cases a with
  | xpStart => exact did_delay .xpStart_pass .xpStart_wait
  | preDone => exact .preDone
  | settleDone => exact .settleDone
  | xpNextByte =>
    simp only [act, State.xpNextByte]
    split_ifs with hn hrl
    · exact .xpNext_request hn hrl
    · exact .xpNext_filler hn (Nat.eq_zero_of_not_pos hrl)
    · exact .xpNext_full (Nat.le_of_not_lt hn)
  | xnaStart => exact .xnaStart
  | xnaNextByte =>
    simp only [act, State.xnaNextByte]
    split_ifs with hrl
    · exact .xnaNext_request hrl
    · exact .xnaNext_done (Nat.eq_zero_of_not_pos hrl)
  | trail => exact did_delay .trail_pass .trail_wait
  | trailDone => exact did_delay .trailDone_pass .trailDone_wait
  | postDone => exact did_afterPacket s
  | probePort =>
    have h := Did.probePort (s := s)
    exact h
  | bcastPort =>
    simp only [act, State.bcastNext]
    split_ifs with h
    · exact .bcastPort_send h
    · rw [Bool.not_eq_true] at h
      split
      · next hp => exact .bcastPort_again h hp
      · next hp => exact .bcastPort_end h hp
  | xbBegin v =>
    cases h : s.xc.txh with
    | none =>
      have hrdy : Xcvr.txRdy s.xc = true := by simp [Xcvr.txRdy, h]
      simp only [act, hrdy, if_true]
      exact .xbBegin_give v h
    | some b =>
      have hrdy : Xcvr.txRdy s.xc = false := by simp [Xcvr.txRdy, h]
      simp only [act, hrdy, Bool.false_eq_true, if_false]
      exact .xbBegin_wait v (by simp [h])
  | xbSend => exact .xbSend
  | xbReceive =>
    simp only [act]
    split
    · next h => exact .xbReceive_wait h
    · next r rest h => exact .xbReceive_take r rest h
  | xbReturn r => exact did_afterXb s r
  | waitBegin b => exact .waitBegin b
  | waitCheck =>
    simp only [act]
    split_ifs with h ha
    · exact .waitCheck_late h
    · exact .waitCheck_caught (not_le.mp h) ha
    · exact .waitCheck_again (not_le.mp h) (Bool.not_eq_true _ ▸ ha)
  | waitSlept => exact .waitSlept
  | waitReturn ok => exact did_afterWait s ok

/-- An action's outcome, from its equation. -/
theorem did_of_act {a : Act} {s s' : State} {next : Option Act} (h : act a s = (s', next)) :
    Did s a s' next := by
  have hdid := did_act a s
  rw [h] at hdid
  exact hdid

/-! ### The rank of a point of a body (log 13) -/

/-- How many bytes the holding register and the shifter can still take. -/
def freePlaces (x : Xcvr) : Nat := x.txh.isNone.toNat + x.sh.isNone.toNat

/-- What a body can still spend on bytes and on a second port. -/
def allowance (s : State) : Nat :=
  8 * freePlaces s.xc + (match s.seq.loopPort with
    | .port0 => 5
    | .port1 => 0)

/-- The position of an action on the way to the next byte handed over or the next port. -/
def position (a : Act) : Nat :=
  match a with
  | .preDone => 1
  | .xpStart => 2
  | .probePort => 3
  | .postDone => 4
  | .trailDone => 5
  | .trail | .xbBegin _ => 6
  | .settleDone | .xnaStart | .xpNextByte | .xnaNextByte => 7
  | .waitReturn _ | .bcastPort => 8
  | .waitCheck => 9
  | .waitSlept | .waitBegin _ => 10
  | .xbReturn _ => 11
  | .xbReceive => 12
  | .xbSend => 13

/-- A bound on the actions from a point on: every byte handed over takes a place, and every further
round of a loop hands one over. -/
def rank (a : Act) (s : State) : Nat :=
  position a + (match a with
    | .xbSend => allowance (sent s)
    | _ => allowance s)

/-- A byte handed to an empty holding register takes one place. -/
theorem allowance_sent {s : State} (h : s.xc.txh = none) : allowance (sent s) + 8 = allowance s := by
  unfold sent allowance freePlaces
  obtain ⟨heq, -⟩ | ⟨b, -, hsh, -, heq⟩ :=
    tryLoad_cases { s with xc := { s.xc with txh := some s.seq.xbByte } } <;> rw [heq]
  · simp only [h, Option.isNone_none, Option.isNone_some, Bool.toNat_true, Bool.toNat_false]
    omega
  · have hsh : s.xc.sh = none := hsh
    simp only [h, hsh, Option.isNone_none, Option.isNone_some, Bool.toNat_true, Bool.toNat_false]
    omega

theorem allowance_le (s : State) : allowance s ≤ 21 := by
  have h1 := Bool.toNat_le s.xc.txh.isNone
  have h2 := Bool.toNat_le s.xc.sh.isNone
  unfold allowance freePlaces
  split <;> omega

theorem rank_lt_actBound (a : Act) (s : State) : rank a s < actBound := by
  have hs := allowance_le s
  have hsent := allowance_le (sent s)
  cases a <;> simp only [rank, position, actBound] <;> omega

/-- Every action that another follows at once lowers the rank. -/
theorem rank_lt_of_did {a a' : Act} {s s' : State} (h : Did s a s' (some a')) :
    rank a' s' < rank a s := by
  cases h with
  | probe_again hc hp | bcast_again hc hp | bcastPort_again hc hp =>
    simp only [rank, position, allowance, hp]
    omega
  | xbBegin_give v h =>
    have hsent := allowance_sent (s := { s with seq := { s.seq with xbByte := v } }) h
    have harith (x y : Nat) (hxy : x + 8 = y) : 13 + x < 6 + y := by omega
    exact harith _ _ hsent
  | xbSend => exact Nat.add_lt_add_right (by decide) _
  | _ => simp [rank, position, allowance, freePlaces, State.buildProbePkt]

/-! ### A body to its rest (R201) -/

/-- With more actions allowed than the rank, a body comes to rest. -/
theorem runActs_rests {fuel : Nat} {a : Act} {s : State} (h : rank a s < fuel) :
    (runActs fuel a s).2 = none := by
  induction fuel generalizing a s with
  | zero => omega
  | succ fuel ih =>
    cases hact : act a s with
    | mk s' next =>
      cases next with
      | none => rw [runActs_stop hact]
      | some a' =>
        rw [runActs_step hact]
        exact ih (by have := rank_lt_of_did (did_of_act hact); omega)

/-- A body at rest does nothing with more actions allowed. -/
theorem runActs_more {fuel : Nat} {a : Act} {s : State} (h : (runActs fuel a s).2 = none) :
    runActs (fuel + 1) a s = runActs fuel a s := by
  induction fuel generalizing a s with
  | zero => cases h
  | succ fuel ih =>
    cases hact : act a s with
    | mk s' next =>
      cases next with
      | none => rw [runActs_stop hact, runActs_stop hact]
      | some a' =>
        rw [runActs_step hact] at h
        rw [runActs_step hact, runActs_step hact, ih h]

/-- The last action of a body. -/
theorem runBody_stop {a : Act} {s s' : State} (h : act a s = (s', none)) : s.runBody a = s' :=
  congrArg Prod.fst (runActs_stop h 63)

/-- An action and the body after it. -/
theorem runBody_next {a a' : Act} {s s' : State} (h : act a s = (s', some a')) :
    s.runBody a = s'.runBody a' := by
  have hbound := rank_lt_actBound a s
  have hlt := rank_lt_of_did (did_of_act h)
  have hrest : (runActs 63 a' s').2 = none :=
    runActs_rests (show rank a' s' < 63 by unfold actBound at hbound; omega)
  calc s.runBody a
    _ = (runActs 63 a' s').1 := congrArg Prod.fst (runActs_step h 63)
    _ = s'.runBody a' := (congrArg Prod.fst (runActs_more hrest)).symm

/-- A property of the points a body passes, and of where it rests: what holds of a point holds of the
next one, and at the last action the property of the rest follows. -/
theorem runBody_induction {P : Act → State → Prop} {Q : State → Prop}
    (next : ∀ a s a' s', P a s → Did s a s' (some a') → P a' s')
    (stop : ∀ a s s', P a s → Did s a s' none → Q s') {a : Act} {s : State} (h : P a s) :
    Q (s.runBody a) := by
  induction hn : rank a s using Nat.strong_induction_on generalizing a s with
  | _ n ih =>
    cases hact : act a s with
    | mk s' following =>
      have hdid := did_of_act hact
      cases following with
      | none =>
        rw [runBody_stop hact]
        exact stop a s s' h hdid
      | some a' =>
        rw [runBody_next hact]
        exact ih _ (hn ▸ rank_lt_of_did hdid) (next a s a' s' h hdid) rfl

/-- What the sequencer phase does with the state: nothing, or a body from the point where it goes on. -/
theorem sequencerPhase_runs (s : State) :
    (s.sequencerPhase = s ∧ ∀ w, s.seq.susp = some w →
      s.suspHolds w = false ∨ resumePoint s.st w = none) ∨
    (∃ w a, s.seq.susp = some w ∧ s.suspHolds w = true ∧ resumePoint s.st w = some a ∧
      s.sequencerPhase = State.runBody { s with seq := { s.seq with susp := none } } a) :=
  sequencerPhase_cases s

/-! ### The obligation -/

/-- Settles O11: the rank is below the bound from every point and in every state. -/
theorem bodiesComeToRest : Obligations.BodiesComeToRest := fun a s =>
  runActs_rests (rank_lt_actBound a s)

end Sys2Proof.Bodies
end

section
/-! PROOFS. What every step keeps or records: what one action of a body, a phase and an instruction can do
to the buffers, to CTRL.PORT and to the attention lines, and the obligations about every step. -/

namespace Sys2Proof.EveryStep

open Sys2Proof.Machine Sys2Proof.Claims Sys2Proof.HostWrites Sys2Proof.Bodies

/-! ### What a body's action does to the buffers (R211, R263) -/

/-- Everything an action can do to the buffers: XP stores a received byte, PROBE builds its request, and
no other action stores anything. -/
theorem did_mem_cases {a : Act} {s s' : State} {next : Option Act} (h : Did s a s' next) :
    s'.mem = s.mem ∨
    (∃ r, a = .xbReturn r ∧ s.st = .xfer ∧ s'.mem = store s.mem (respbufAt s.seq.n) r) ∨
    (a = .probePort ∧ s'.mem = s.buildProbePkt.mem) := by
  cases h with
  | reply_xfer r h => exact .inr (.inl ⟨r, rfl, h, rfl⟩)
  | probePort => exact .inr (.inr ⟨rfl, rfl⟩)
  | xbSend => exact .inl (tryLoad_mem _)
  | _ => exact .inl rfl

theorem did_mem_wf {a : Act} {s s' : State} {next : Option Act} (hdid : Did s a s' next)
    (h : s.mem.wf = true) : s'.mem.wf = true := by
  obtain heq | ⟨r, -, -, heq⟩ | ⟨-, heq⟩ := did_mem_cases hdid <;> rw [heq]
  · exact h
  · have hr := respbufAt_range s.seq.n
    exact writeByte_wf h r (by omega) (by omega)
  · exact writePkt_wf h _ _

theorem act_mem_wf (a : Act) {s : State} (h : s.mem.wf = true) : (act a s).1.mem.wf = true :=
  did_mem_wf (did_act a s) h

theorem runActs_mem_wf (fuel : Nat) (a : Act) {s : State} (h : s.mem.wf = true) :
    (runActs fuel a s).1.mem.wf = true :=
  runActs_keeps (P := fun s => s.mem.wf = true) (fun a _ h => act_mem_wf a h) fuel a h

/-- BCAST's packet built and its routine's arguments set (R265). -/
def bcastArgs (s : State) (ls : Nat) : State :=
  (s.buildIdPkt ls).routineArgs (s.buildIdPkt ls).cfg.addrCard .pkt (Config.bcastHdr + (ls + 1))
    (s.buildIdPkt ls).seq.cap

/-- Attention as a BCAST finds or, with an empty mask, leaves it (log 17). -/
def bcastDriven (s : State) : State := if s.seq.mask = 0 then s.emptyBcast else s

theorem bcastDriven_cases (s : State) : bcastDriven s = s ∨ bcastDriven s = s.emptyBcast := by
  unfold bcastDriven
  split_ifs
  · exact .inr rfl
  · exact .inl rfl

@[simp] theorem bcastDriven_mem (s : State) : (bcastDriven s).mem = s.mem := by
  obtain h | h := bcastDriven_cases s
  · rw [h]
  · rw [h]
    rfl

/-- The state in which BCAST's body is entered. -/
def bcastEntered (s : State) (ls : Nat) : State :=
  { bcastDriven (bcastArgs s ls) with
    seq := { (bcastDriven (bcastArgs s ls)).seq with loopPort := .port0 } }

theorem commandEntry_bcast {s : State} {ls : Nat} (h : s.textLength = some ls) :
    commandEntry .bcast s = (bcastEntered s ls, some .bcastPort) := by
  rw [commandEntry, h]
  rfl

theorem commandEntry_bcast_none {s : State} (h : s.textLength = none) :
    commandEntry .bcast s = (s.endCommand, none) := by
  rw [commandEntry, h]

/-- The state in which POLL's exchange is entered (R261). -/
def pollEntered (s : State) : State :=
  (s.buildPollPkt.driveAttn s.xc.attn s.seq.port).routineArgs s.buildPollPkt.cfg.addrPad .pkt
    Config.pollReqLen Config.pollRespCap

theorem commandEntry_poll (s : State) : commandEntry .poll s = (pollEntered s, some .xpStart) := rfl

theorem pollEntered_mem (s : State) : (pollEntered s).mem = s.buildPollPkt.mem := rfl

/-- What a command's first actions before its body leave in the buffers. -/
theorem commandEntry_mem_wf (c : Cmd) {s : State} (h : s.mem.wf = true) :
    (commandEntry c s).1.mem.wf = true := by
  cases c with
  | poll =>
    rw [commandEntry_poll, pollEntered_mem]
    exact writePkt_wf h _ _
  | bcast =>
    cases htext : s.textLength with
    | none => rw [commandEntry_bcast_none htext]; exact h
    | some ls =>
      have hid : (s.buildIdPkt ls).mem.wf = true := writePkt_wf h _ _
      rw [commandEntry_bcast htext]
      simpa [bcastEntered, bcastArgs] using hid
  | init | select | waitack | xbyte | xchg | xnoack | probe => exact h

theorem launch_mem_wf (c : Cmd) {s : State} (h : s.mem.wf = true) : (s.launch c).mem.wf = true := by
  have hentry := commandEntry_mem_wf c h
  obtain ⟨-, heq⟩ | ⟨a, -, heq⟩ := launch_cases s c <;> rw [heq]
  · exact hentry
  · exact runActs_mem_wf _ a hentry

@[simp] theorem receive_mem (s : State) (r : Byte) : (s.receive r).mem = s.mem := by
  obtain ⟨-, h⟩ | ⟨-, -, h⟩ | ⟨-, -, h⟩ := receive_cases s r <;> rw [h]

@[simp] theorem transceiverPhase_mem (s : State) (r : Byte) : (s.transceiverPhase r).mem = s.mem := by
  obtain ⟨h, -⟩ | ⟨b, -, h⟩ := transceiverPhase_cases s r <;> rw [h]
  simp [State.complete]

@[simp] theorem ackPhase_mem (s : State) (b : Bool) : (s.ackPhase b).mem = s.mem := by
  obtain ⟨-, h⟩ | ⟨-, -, h⟩ | ⟨-, -, h⟩ := ackPhase_cases s b <;> rw [h] <;> rfl

theorem tick_mem_wf {s : State} (h : s.mem.wf = true) : s.tick.mem.wf = true :=
  tick_keeps (P := fun s => s.mem.wf = true) (fun _ h => h)
    (fun s r h => by rw [transceiverPhase_mem]; exact h)
    (fun s b h => by rw [ackPhase_mem]; exact h)
    (fun s h => sequencerPhase_keeps (P := fun s => s.mem.wf = true) (fun a _ h => act_mem_wf a h)
      (fun _ h => h) h) h

/-! ### Everything an instruction can do to the state (R120 to R158) -/

/-- What the host's instruction `i` makes of the state `s` where it answers one: it changes error bits and
the value read, or, while no command runs, it writes registers, a buffer, the FIFO or the transceiver,
or starts a command. -/
inductive HostMove (s : State) (i : Instr) : State → Prop where
  | flags (w a : Bool) (x : Half) : HostMove s i { s with werr := w, aerr := a, rdata := x }
  | registers (idle : s.busy = false) (sa sg rq mx : Byte) (tm : Half) (k : Bool)
      (hk : k = true → s.ack = true) :
      HostMove s i { s with
        saddr := sa, sarg := sg, sreqlen := rq, smaxresp := mx, stimeout := tm, ack := k }
  | buffer (idle : s.busy = false) (bufAt : Nat → Nat) (h : ∀ k, 0x40 ≤ bufAt k ∧ bufAt k < 0x100)
      (d : WData) (k : BitVec 6) : HostMove s i (s.bufferWrite bufAt d k)
  | popped (idle : s.busy = false) (b : Byte) (rest : List Byte) (h : s.xc.rxf = b :: rest) (x : Half) :
      HostMove s i { s with xc := { s.xc with rxf := rest }, rdata := x }
  | line (idle : s.busy = false) (m c : BitVec 2) (b : Half) :
      HostMove s i (State.tryLoad { s with xc := { s.xc with mult := m, chlen := c, baud := b } })
  | given (idle : s.busy = false) (b : Byte) (h : s.xc.txh = none) :
      HostMove s i (State.tryLoad { s with xc := { s.xc with txh := some b } })
  | control (idle : s.busy = false) (hi : mayMovePort i = true) (v : Half) :
      HostMove s i (s.writeCtrl v)
  | rejected (idle : s.busy = false) (v : Byte) (e : ErrCode) :
      HostMove s i (State.reject { s with scmd := v } e)
  | started (idle : s.busy = false) (v : Byte) (c : Cmd)
      (hi : c = .init ∨ c = .select ∨ c = .poll ∨ c = .probe ∨ c = .bcast → mayMovePort i = true)
      (hok : State.operandError { s with scmd := v } c = .noError) :
      HostMove s i ((State.accept { s with scmd := v } c).launch c)

section

variable {s t u : State} {i : Instr}

/-- A guarded write is its effect while idle, or the busy filter. -/
theorem hostMove_wrote (h : s.busy = false → HostMove s i u) (ht : s.wrote u = .next t) :
    HostMove s i t := by
  obtain ⟨-, rfl⟩ | ⟨hb, rfl⟩ := (wrote_next s u t).mp ht
  · exact .flags true s.aerr s.rdata
  · exact h hb

theorem hostMove_reply {x : Half} (ht : s.reply x = .next t) : HostMove s i t := by
  injection ht with ht
  exact ht ▸ .flags s.werr s.aerr x

theorem hostMove_badRead (ht : s.badRead = .next t) : HostMove s i t := by
  injection ht with ht
  exact ht ▸ .flags s.werr true 0

theorem hostMove_badWrite (ht : s.badWrite = .next t) : HostMove s i t :=
  hostMove_wrote (fun _ => .flags s.werr true s.rdata) ht

theorem hostMove_start {v : Byte} {c : Cmd} (idle : s.busy = false)
    (hi : c = .init ∨ c = .select ∨ c = .poll ∨ c = .probe ∨ c = .bcast → mayMovePort i = true) :
    HostMove s i (State.startCommand { s with scmd := v } c) := by
  obtain ⟨-, h⟩ | ⟨hok, h⟩ := startCommand_cases { s with scmd := v } c <;> rw [h]
  · exact .rejected idle v _
  · exact .started idle v c hi hok

/-- The bytes that select the commands that move the port (R93, R178). -/
theorem cmdOfByte_mayMovePort {v : Byte} {c : Cmd} (h : cmdOfByte v = some c)
    (hc : c = .init ∨ c = .select ∨ c = .poll ∨ c = .probe ∨ c = .bcast) :
    v = 0x01 ∨ v = 0x02 ∨ v = 0x10 ∨ v = 0x11 ∨ v = 0x12 := by
  have hv : v = commandByte c := by
    revert v c
    decide
  rcases hc with rfl | rfl | rfl | rfl | rfl <;> simp [hv, commandByte]

theorem mayMovePort_wrScmd {d : WData}
    (h : dataLow d = 0x01 ∨ dataLow d = 0x02 ∨ dataLow d = 0x10 ∨ dataLow d = 0x11 ∨ dataLow d = 0x12) :
    mayMovePort (.wrScmd d) = true := by
  cases d with
  | w8 b => simpa [mayMovePort, dataLow] using h
  | w16 v =>
    have hv : v.toNat % 256 = (loByte v).toNat := (loByte_toNat v).symm
    simp only [mayMovePort, hv, decide_eq_true_eq]
    rcases h with h | h | h | h | h <;> simp [show loByte v = _ from h]

/-- Every instruction is one of these moves. -/
theorem hostMove_of_exec (h : exec i s = .next t) : HostMove s i t := by
  cases i with
  | misalign16 a | wide24 a | wide26 a | unmapped a =>
    cases a with
    | read => exact hostMove_badRead h
    | write => exact hostMove_badWrite h
  | rz01 a | rz21 a | rz29 a =>
    cases a with
    | read => exact hostMove_reply h
    | write => exact hostMove_wrote (fun _ => .flags s.werr s.aerr s.rdata) h
  | rdStat | rdMode | rdCtrl | rdBaud | rdIstat | rdScmd | rdSstat | rdSaddr | rdSarg | rdSreqlen
  | rdSmaxresp | rdSresplen | rdSresult | rdStimeout | rdReqbuf | rdRespbuf | rdPkt =>
    exact hostMove_reply h
  | wrStat | wrSresplen | wrSresult | wrPkt => exact hostMove_badWrite h
  | rdData w =>
    cases hb : s.busy with
    | true =>
      rw [HostPort.exec_rdData_busy w hb] at h
      injection h with h
      exact h ▸ .flags true s.aerr 0
    | false =>
      cases hf : s.xc.rxf with
      | nil =>
        rw [HostPort.exec_rdData_empty w hb hf] at h
        injection h with h
        exact h ▸ .flags s.werr true 0
      | cons b rest =>
        rw [HostPort.exec_rdData_pop w hb hf] at h
        injection h with h
        exact h ▸ .popped hb b rest hf _
  | wrData d =>
    change execWrData d s = _ at h
    obtain ⟨-, heq⟩ | ⟨-, -, heq⟩ | ⟨-, -, -, heq⟩ | ⟨hb, -, htxh, heq⟩ := execWrData_cases d s <;>
      rw [heq] at h
    · injection h with h
      exact h ▸ .flags true s.aerr s.rdata
    · cases h
    · injection h with h
      exact h ▸ .flags s.werr true s.rdata
    · injection h with h
      exact h ▸ .given hb _ htxh
  | wrSstat l =>
    obtain ⟨w, a, heq⟩ := exec_wrSstat_next l s
    rw [heq] at h
    injection h with h
    exact h ▸ .flags w a s.rdata
  | wrIstat l =>
    cases l with
    | lo b | whole b =>
      exact hostMove_wrote (fun hb => .registers hb s.saddr s.sarg s.sreqlen s.smaxresp s.stimeout _
        fun hk => (Bool.and_eq_true_iff.mp hk).1) h
    | hi => exact hostMove_wrote (fun _ => .flags s.werr s.aerr s.rdata) h
  | wrSaddr | wrSarg | wrSreqlen | wrSmaxresp | wrStimeout =>
    exact hostMove_wrote (fun hb => .registers hb _ _ _ _ _ s.ack id) h
  | wrReqbuf d k =>
    exact hostMove_wrote (fun hb => .buffer hb reqbufAt
      (fun k => by have := reqbufAt_range k; omega) d k) h
  | wrRespbuf d k =>
    exact hostMove_wrote (fun hb => .buffer hb respbufAt
      (fun k => by have := respbufAt_range k; omega) d k) h
  | wrMode | wrBaud => exact hostMove_wrote (fun hb => .line hb _ _ _) h
  | wrCtrl => exact hostMove_wrote (fun hb => .control hb rfl _) h
  | reservedCmd v => exact hostMove_wrote (fun hb => .rejected hb v _) h
  | wrScmd d =>
    refine hostMove_wrote (fun hb => ?_) h
    obtain ⟨c, hc, heq⟩ | ⟨-, heq⟩ := start_cases { s with scmd := dataLow d } (dataLow d) <;> rw [heq]
    · exact hostMove_start hb fun hcmd => mayMovePort_wrScmd (cmdOfByte_mayMovePort hc hcmd)
    · exact .rejected hb _ _
  | init | select | poll | probe | bcast =>
    exact hostMove_wrote (fun hb => hostMove_start hb fun _ => rfl) h
  | waitack | xbyte | xchg | xnoack =>
    exact hostMove_wrote (fun hb => hostMove_start hb (by simp)) h

end

/-- Everything a step can do: a tick, or an instruction's move, of the state without the host's event. -/
theorem step_next_cases {s t : State} (h : step s = .next t) :
    ∃ rest, t = State.tick { s with host := rest } ∨ ∃ i, HostMove { s with host := rest } i t := by
  obtain ⟨hh, heq⟩ | ⟨rest, -, heq⟩ | ⟨bytes, rest, i, -, -, heq⟩ | ⟨bytes, rest, e, -, -, heq⟩ :=
    step_cases s <;> rw [heq] at h
  · injection h with h
    exact ⟨s.host, .inl h.symm⟩
  · injection h with h
    exact ⟨rest, .inl h.symm⟩
  · exact ⟨rest, .inr ⟨i, hostMove_of_exec h⟩⟩
  · cases h

/-- An instruction keeps the canonical form of the memory list. -/
theorem hostMove_mem_wf {s t : State} {i : Instr} (h : HostMove s i t) (hwf : s.mem.wf = true) :
    t.mem.wf = true := by
  cases h with
  | flags | registers | popped | rejected => exact hwf
  | buffer idle bufAt hr d k => exact bufferWrite_wf hwf hr d k
  | line | given => rw [tryLoad_mem]; exact hwf
  | control idle hi v =>
    cases h6 : v.getLsbD 6 with
    | true => rw [writeCtrl_of_reset s h6]; exact hwf
    | false => rw [writeCtrl_of_not_reset s h6, tryLoad_mem]; exact hwf
  | started idle v c => exact launch_mem_wf c hwf

/-! ### What no instruction changes (R7, R23) -/

/-- From `s` to `t` the parameters, the reset count and the tick counter stay and the record grows. -/
structure Steady (s t : State) : Prop where
  cfg : t.cfg = s.cfg
  resets : t.resets = s.resets
  now : t.now = s.now
  wire : s.wire <+: t.wire

theorem Internal.steady {s t : State} (h : Internal s t) : Steady s t :=
  ⟨h.cfg, h.resets, h.now, h.wire⟩

theorem hostMove_steady {s t : State} {i : Instr} (h : HostMove s i t) : Steady s t := by
  cases h with
  | flags | registers | popped | rejected => exact ⟨rfl, rfl, rfl, List.prefix_refl _⟩
  | buffer idle bufAt hr d k => rw [bufferWrite_frame]; exact ⟨rfl, rfl, rfl, List.prefix_refl _⟩
  | line | given => exact Internal.steady ((xc_internal s _).trans (tryLoad_internal _))
  | control idle hi v =>
    cases h6 : v.getLsbD 6 with
    | true => rw [writeCtrl_of_reset s h6]; exact ⟨rfl, rfl, rfl, List.prefix_append ..⟩
    | false =>
      rw [writeCtrl_of_not_reset s h6]
      obtain ⟨hc, hr, hn, hw⟩ := Internal.steady (tryLoad_internal _)
      exact ⟨hc, hr, hn, (List.prefix_append ..).trans hw⟩
  | started idle v c hi hok =>
    obtain ⟨hc, hr, hn, hw⟩ := Internal.steady ((accept_internal _ c).trans (launch_internal _ c))
    exact ⟨hc, hr, hn, hw⟩

theorem ackPhase_steady (s : State) (b : Bool) : Steady s (s.ackPhase b) := by
  obtain ⟨-, h⟩ | ⟨-, -, h⟩ | ⟨-, -, h⟩ := ackPhase_cases s b <;> rw [h]
  · exact ⟨rfl, rfl, rfl, List.prefix_refl _⟩
  · exact ⟨rfl, rfl, rfl, List.prefix_append ..⟩
  · exact ⟨rfl, rfl, rfl, List.prefix_append ..⟩

theorem Steady.trans {s t u : State} (h : Steady s t) (k : Steady t u) : Steady s u :=
  ⟨k.cfg.trans h.cfg, k.resets.trans h.resets, k.now.trans h.now, h.wire.trans k.wire⟩

/-- The three phases of a tick. -/
theorem tick_steady (s : State) : Steady s.advance.dropDev s.tick :=
  ((Internal.steady (transceiverPhase_internal ..)).trans (ackPhase_steady ..)).trans
    (Internal.steady (sequencerPhase_internal _))

/-! ### The attention lines and the record (R26, R174) -/

/-- The events recorded from `s` to `t` lead each attention line from its level at `s` to that at `t`. -/
def Traced (s t : State) : Prop :=
  ∃ w, t.wire = s.wire ++ w ∧ ∀ p, replay p (s.attnLine p) w = some (t.attnLine p)

theorem replay_append (p : Port) (l : Bool) (w w' : List WireEvent) :
    replay p l (w ++ w') = (replay p l w).bind fun l' => replay p l' w' := by
  induction w generalizing l with
  | nil => rfl
  | cons e w ih =>
    cases e with
    | shift => exact ih l
    | ack => exact ih l
    | attn t q new =>
      simp only [List.cons_append, replay]
      split_ifs
      · rfl
      · exact ih new
      · exact ih l

theorem Traced.trans {s t u : State} (h : Traced s t) (k : Traced t u) : Traced s u := by
  obtain ⟨w, hw, hr⟩ := h
  obtain ⟨w', hw', hr'⟩ := k
  refine ⟨w ++ w', by rw [hw', hw, List.append_assoc], fun p => ?_⟩
  rw [replay_append, hr, Option.bind_some, hr']

/-- Where the record and the two fields behind the lines stay, there is nothing to replay. -/
theorem traced_of_still {s t : State} (hw : t.wire = s.wire) (ha : t.xc.attn = s.xc.attn)
    (hp : t.xc.port = s.xc.port) : Traced s t :=
  ⟨[], by simp [hw], fun p => by simp [replay, State.attnLine, ha, hp]⟩

theorem Traced.refl (s : State) : Traced s s := traced_of_still rfl rfl rfl

theorem replay_attnEvents (p : Port) (now : Tick) (a a' : Bool) (q q' : Port) :
    replay p (attnLevel a q p) (attnEvents now a q a' q') = some (attnLevel a' q' p) := by
  cases a <;> cases a' <;> cases q <;> cases q' <;> cases p <;> rfl

/-- A drive of the lines, whatever else the state takes on. -/
theorem traced_of_driven {s t : State} (b : Bool) (p : Port)
    (hw : t.wire = s.wire ++ attnEvents s.now s.xc.attn s.xc.port b p) (ha : t.xc.attn = b)
    (hp : t.xc.port = p) : Traced s t :=
  ⟨_, hw, fun q => by rw [State.attnLine, State.attnLine, ha, hp]; exact replay_attnEvents ..⟩

theorem tryLoad_traced (s : State) : Traced s s.tryLoad := by
  obtain ⟨h, -⟩ | ⟨b, -, -, -, h⟩ := tryLoad_cases s <;> rw [h]
  · exact .refl s
  · exact ⟨_, rfl, fun p => rfl⟩

/-- An action records exactly the changes that it makes to the attention lines. -/
theorem did_traced {a : Act} {s s' : State} {next : Option Act} (h : Did s a s' next) :
    Traced s s' := by
  cases h with
  | preDone | xnaStart => exact traced_of_driven true s.xc.port rfl rfl rfl
  | trailDone_pass | trailDone_wait => exact traced_of_driven false s.xc.port rfl rfl rfl
  | probePort | bcastPort_send => exact traced_of_driven s.xc.attn s.seq.loopPort rfl rfl rfl
  | xbSend => exact (traced_of_still rfl rfl rfl).trans (tryLoad_traced _)
  | _ => exact traced_of_still rfl rfl rfl

theorem act_traced (a : Act) (s : State) : Traced s (act a s).1 := did_traced (did_act a s)

theorem runActs_traced (fuel : Nat) (a : Act) (s : State) : Traced s (runActs fuel a s).1 :=
  runActs_keeps (P := Traced s) (fun a t ht => ht.trans (act_traced a t)) fuel a (.refl s)

theorem sequencerPhase_traced (s : State) : Traced s s.sequencerPhase :=
  sequencerPhase_keeps (P := Traced s) (fun a t ht => ht.trans (act_traced a t))
    (fun _ ht => ht.trans (traced_of_still rfl rfl rfl)) (.refl s)

theorem commandEntry_traced (c : Cmd) (s : State) : Traced s (commandEntry c s).1 := by
  cases c with
  | init => exact traced_of_driven false .port0 rfl rfl rfl
  | select => exact traced_of_driven s.xc.attn s.seq.port rfl rfl rfl
  | waitack | xbyte | xchg | xnoack | probe => exact traced_of_still rfl rfl rfl
  | poll =>
    rw [commandEntry_poll]
    exact traced_of_driven s.xc.attn s.seq.port (by simp [pollEntered, State.buildPollPkt,
      State.driveAttn, State.routineArgs]) rfl rfl
  | bcast =>
    cases htext : s.textLength with
    | none => rw [commandEntry_bcast_none htext]; exact traced_of_still rfl rfl rfl
    | some ls =>
      have hargs : Traced s (bcastArgs s ls) := traced_of_still (by simp [bcastArgs, State.buildIdPkt])
        (by simp [bcastArgs, State.buildIdPkt]) (by simp [bcastArgs, State.buildIdPkt])
      have hdriven : Traced (bcastArgs s ls) (bcastDriven (bcastArgs s ls)) := by
        obtain h | h := bcastDriven_cases (bcastArgs s ls) <;> rw [h]
        · exact .refl _
        · exact traced_of_driven _ _ rfl rfl rfl
      rw [commandEntry_bcast htext]
      exact (hargs.trans hdriven).trans (traced_of_still rfl rfl rfl)

theorem launch_traced (s : State) (c : Cmd) : Traced s (s.launch c) := by
  have hentry := commandEntry_traced c s
  obtain ⟨-, heq⟩ | ⟨a, -, heq⟩ := launch_cases s c <;> rw [heq]
  · exact hentry
  · exact hentry.trans (runActs_traced _ a _)

theorem hostMove_traced {s t : State} {i : Instr} (h : HostMove s i t) : Traced s t := by
  cases h with
  | flags | registers | popped | rejected => exact traced_of_still rfl rfl rfl
  | buffer idle bufAt hr d k => rw [bufferWrite_frame]; exact traced_of_still rfl rfl rfl
  | line | given => exact (traced_of_still rfl rfl rfl).trans (tryLoad_traced _)
  | control idle hi v =>
    cases h6 : v.getLsbD 6 with
    | true =>
      rw [State.writeCtrl, if_pos h6]
      exact traced_of_driven false .port0 rfl rfl rfl
    | false =>
      rw [writeCtrl_of_not_reset s h6]
      exact (traced_of_driven _ _ rfl rfl rfl).trans (tryLoad_traced _)
  | started idle v c => exact (traced_of_still rfl rfl rfl).trans (launch_traced _ c)

theorem transceiverPhase_traced (s : State) (r : Byte) : Traced s (s.transceiverPhase r) := by
  obtain ⟨h, -⟩ | ⟨b, -, h⟩ := transceiverPhase_cases s r <;> rw [h]
  · exact .refl s
  · refine Traced.trans ?_ (tryLoad_traced _)
    obtain ⟨-, hr⟩ | ⟨-, -, hr⟩ | ⟨-, -, hr⟩ := receive_cases { s with xc := { s.xc with sh := none } } r <;>
      rw [hr] <;> exact traced_of_still rfl rfl rfl

theorem ackPhase_traced (s : State) (b : Bool) : Traced s (s.ackPhase b) := by
  obtain ⟨-, h⟩ | ⟨-, -, h⟩ | ⟨-, -, h⟩ := ackPhase_cases s b <;> rw [h]
  · exact .refl s
  · exact ⟨_, rfl, fun p => rfl⟩
  · exact ⟨_, rfl, fun p => rfl⟩

theorem tick_traced (s : State) : Traced s s.tick :=
  tick_keeps (P := Traced s) (fun _ h => h.trans (traced_of_still rfl rfl rfl))
    (fun _ r h => h.trans (transceiverPhase_traced _ r)) (fun _ b h => h.trans (ackPhase_traced _ b))
    (fun _ h => h.trans (sequencerPhase_traced _)) (.refl s)

/-! ### CTRL.PORT (R178) -/

/-- What holds at the points of a body, and where it rests, whose command leaves CTRL.PORT at `p`: the
body neither runs PROBE or BCAST nor chooses a port. -/
def PortStays (p : Port) (a : Act) (s : State) : Prop :=
  a ≠ .probePort ∧ a ≠ .bcastPort ∧ s.seq.cur ≠ some .probe ∧ s.seq.cur ≠ some .bcast ∧ s.xc.port = p

theorem portStays_next {p : Port} {a a' : Act} {s s' : State} (h : PortStays p a s)
    (hdid : Did s a s' (some a')) : PortStays p a' s' := by
  obtain ⟨hpp, hbp, hcp, hcb, hport⟩ := h
  cases hdid with
  | probePort => exact absurd rfl hpp
  | bcastPort_send | bcastPort_again => exact absurd rfl hbp
  | probe_again hc => exact absurd hc hcp
  | bcast_again hc => exact absurd hc hcb
  | xbSend => exact ⟨nofun, nofun, by simpa [sent] using hcp, by simpa [sent] using hcb,
      (tryLoad_port _).trans hport⟩
  | _ => exact ⟨nofun, nofun, hcp, hcb, hport⟩

theorem portStays_stop {p : Port} {a : Act} {s s' : State} (h : PortStays p a s)
    (hdid : Did s a s' none) : s'.xc.port = p := by
  obtain ⟨-, -, -, -, hport⟩ := h
  cases hdid <;> exact hport

theorem runBody_port {a : Act} {s : State} (hp : a ≠ .probePort) (hb : a ≠ .bcastPort)
    (hcp : s.seq.cur ≠ some .probe) (hcb : s.seq.cur ≠ some .bcast) :
    (s.runBody a).xc.port = s.xc.port :=
  runBody_induction (P := PortStays s.xc.port) (Q := fun t => t.xc.port = s.xc.port)
    (fun _ _ _ _ => portStays_next) (fun _ _ _ => portStays_stop) ⟨hp, hb, hcp, hcb, rfl⟩

theorem resumePoint_not_port {st : SeqState} {w : Susp} {a : Act} (h : resumePoint st w = some a) :
    a ≠ .probePort ∧ a ≠ .bcastPort := by
  unfold resumePoint at h
  split at h <;> cases h <;> exact ⟨nofun, nofun⟩

theorem sequencerPhase_port {s : State} (hcp : s.seq.cur ≠ some .probe)
    (hcb : s.seq.cur ≠ some .bcast) : s.sequencerPhase.xc.port = s.xc.port := by
  obtain ⟨h, -⟩ | ⟨w, a, -, -, hr, h⟩ := sequencerPhase_runs s <;> rw [h]
  obtain ⟨hp, hb⟩ := resumePoint_not_port hr
  exact runBody_port (s := { s with seq := { s.seq with susp := none } }) hp hb hcp hcb

@[simp] theorem receive_port (s : State) (r : Byte) : (s.receive r).xc.port = s.xc.port := by
  obtain ⟨-, h⟩ | ⟨-, -, h⟩ | ⟨-, -, h⟩ := receive_cases s r <;> rw [h]

@[simp] theorem receive_seq (s : State) (r : Byte) : (s.receive r).seq = s.seq := by
  obtain ⟨-, h⟩ | ⟨-, -, h⟩ | ⟨-, -, h⟩ := receive_cases s r <;> rw [h]

@[simp] theorem transceiverPhase_port (s : State) (r : Byte) :
    (s.transceiverPhase r).xc.port = s.xc.port := by
  obtain ⟨h, -⟩ | ⟨b, -, h⟩ := transceiverPhase_cases s r <;> rw [h]
  simp [State.complete]

@[simp] theorem transceiverPhase_seq (s : State) (r : Byte) : (s.transceiverPhase r).seq = s.seq := by
  obtain ⟨h, -⟩ | ⟨b, -, h⟩ := transceiverPhase_cases s r <;> rw [h]
  simp [State.complete]

@[simp] theorem ackPhase_port (s : State) (b : Bool) : (s.ackPhase b).xc.port = s.xc.port := by
  obtain ⟨-, h⟩ | ⟨-, -, h⟩ | ⟨-, -, h⟩ := ackPhase_cases s b <;> rw [h] <;> rfl

@[simp] theorem ackPhase_seq (s : State) (b : Bool) : (s.ackPhase b).seq = s.seq := by
  obtain ⟨-, h⟩ | ⟨-, -, h⟩ | ⟨-, -, h⟩ := ackPhase_cases s b <;> rw [h] <;> rfl

theorem tick_port {s : State} (hcp : s.seq.cur ≠ some .probe) (hcb : s.seq.cur ≠ some .bcast) :
    s.tick.xc.port = s.xc.port := by
  rw [tick_eq, sequencerPhase_port (by simpa using hcp) (by simpa using hcb)]
  simp

/-- WAITACK, XBYTE, XCHG and XNOACK leave CTRL.PORT in their START. -/
theorem launch_port {s : State} {c : Cmd} (hcur : s.seq.cur = some c)
    (hc : c = .waitack ∨ c = .xbyte ∨ c = .xchg ∨ c = .xnoack) :
    (s.launch c).xc.port = s.xc.port := by
  have hcp : s.seq.cur ≠ some .probe := by rcases hc with rfl | rfl | rfl | rfl <;> simp [hcur]
  have hcb : s.seq.cur ≠ some .bcast := by rcases hc with rfl | rfl | rfl | rfl <;> simp [hcur]
  rcases hc with rfl | rfl | rfl | rfl
  · exact runBody_port (s := s.enter .waitCmd) nofun nofun hcp hcb
  · exact runBody_port (s := s.enter .byteCmd) nofun nofun hcp hcb
  · exact runBody_port (s := s.routineArgs s.seq.addr .reqbuf s.seq.rl0 s.seq.cap) nofun nofun hcp hcb
  · exact runBody_port (s := s.routineArgs s.seq.addr .reqbuf s.seq.rl0 s.seq.cap) nofun nofun hcp hcb

theorem hostMove_port {s t : State} {i : Instr} (h : HostMove s i t) (hi : mayMovePort i = false) :
    t.xc.port = s.xc.port := by
  cases h with
  | flags | registers | popped | rejected => rfl
  | buffer idle bufAt hr d k => rw [bufferWrite_frame]
  | line | given => exact tryLoad_port _
  | control idle hctrl => simp [hctrl] at hi
  | started idle v c hmay =>
    refine launch_port (s := State.accept { s with scmd := v } c) rfl ?_
    cases c <;> simp_all

/-! ### The obligations -/

/-- Settles O8: an instruction's move and a tick keep the form. -/
theorem everyStepKeepsTheMemoryForm : Obligations.EveryStepKeepsTheMemoryForm := by
  intro s t hwf h
  obtain ⟨rest, rfl | ⟨i, hmove⟩⟩ := step_next_cases h
  · exact tick_mem_wf (s := { s with host := rest }) hwf
  · exact hostMove_mem_wf hmove hwf

/-- Settles O9: an instruction keeps the tick counter, and a tick advances it by one. -/
theorem everyStepKeepsParametersAndRecord : Obligations.EveryStepKeepsParametersAndRecord := by
  intro s t h
  obtain ⟨rest, rfl | ⟨i, hmove⟩⟩ := step_next_cases h
  · obtain ⟨hc, hr, hn, hw⟩ := tick_steady { s with host := rest }
    exact ⟨hc, hr, .inr hn, hw⟩
  · obtain ⟨hc, hr, hn, hw⟩ := hostMove_steady hmove
    exact ⟨hc, hr, .inl hn, hw⟩

/-- Settles O10: each part of a step appends the events of its own changes. -/
theorem everyAttentionChangeIsRecorded : Obligations.EveryAttentionChangeIsRecorded := by
  intro s t h
  obtain ⟨rest, rfl | ⟨i, hmove⟩⟩ := step_next_cases h
  · exact tick_traced { s with host := rest }
  · have htraced : Traced { s with host := rest } t := hostMove_traced hmove
    exact htraced

/-- Settles O16: the host's part by its moves, the ticks' by the bodies that choose no port. -/
theorem selectedPortPersists : Obligations.SelectedPortPersists :=
  ⟨fun _ _ _ hi h => hostMove_port (hostMove_of_exec h) hi, fun _ => tick_port⟩

end Sys2Proof.EveryStep
end

section
/-! PROOFS. The routines of R230 and R235 as whole bodies: from each point at which a body can go on, the
state it rests in is the one that the statements' routines describe. -/

namespace Sys2Proof.Routines

open Sys2Proof.Machine Sys2Proof.Claims Sys2Proof.HostWrites Sys2Proof.Bodies

/-! ### States that differ in STATE and SUSP alone

A body reads neither SUSP nor, at most of its points, STATE; the statements' routines leave both as they
were until the body rests. -/

/-- The state with another SUSP. -/
def suspAs (x : Option Susp) (v : State) : State := { v with seq := { v.seq with susp := x } }

/-- The state with another STATE and another SUSP. -/
def atPoint (q : SeqState) (x : Option Susp) (v : State) : State := suspAs x { v with st := q }

theorem tryLoad_suspAs (x : Option Susp) (v : State) : (suspAs x v).tryLoad = suspAs x v.tryLoad := by
  obtain ⟨h, hidle⟩ | ⟨b, htxh, hsh, hen, h⟩ := tryLoad_cases v <;> rw [h]
  · exact tryLoad_idle (s := suspAs x v) hidle
  · exact tryLoad_loads (s := suspAs x v) htxh hsh hen

theorem sent_suspAs (x : Option Susp) (v : State) : sent (suspAs x v) = suspAs x (sent v) :=
  tryLoad_suspAs x { v with xc := { v.xc with txh := some v.seq.xbByte } }

@[simp] theorem sent_seq (v : State) : (sent v).seq = v.seq := tryLoad_seq _
@[simp] theorem sent_st (v : State) : (sent v).st = v.st := tryLoad_st _
@[simp] theorem sent_cfg (v : State) : (sent v).cfg = v.cfg := tryLoad_cfg _
@[simp] theorem sent_now (v : State) : (sent v).now = v.now := tryLoad_now _
@[simp] theorem sent_mem (v : State) : (sent v).mem = v.mem := tryLoad_mem _
@[simp] theorem sent_ack (v : State) : (sent v).ack = v.ack := Transceiver.tryLoad_ack _
@[simp] theorem sent_rxf (v : State) : (sent v).xc.rxf = v.xc.rxf := tryLoad_rxf _

/-! ### Attention as the statements write it (R26, R174) -/

theorem driveAttn_assert (s : State) : s.driveAttn true s.xc.port = attended s := by
  rw [State.driveAttn, attended]
  congr 1
  cases s.xc.attn
  · rw [attnEvents_assert, if_neg Bool.false_ne_true]
  · rw [attnEvents_same, if_pos rfl, List.append_nil]

theorem driveAttn_release (s : State) : s.driveAttn false s.xc.port = lowered s := by
  rw [State.driveAttn, lowered, Primitives.attnEvents_deassert]

/-! ### The delays and the byte exchange (R201, R202) -/

/-- An action that ends in a delay. -/
theorem runBody_of_delay {a k : Act} {s u : State} {d : Nat} (h : act a s = u.delayThen d k) :
    s.runBody a = if d = 0 then u.runBody k else waits u (.untilTick (u.now + d)) := by
  unfold State.delayThen at h
  split_ifs at h ⊢
  · exact runBody_next h
  · exact runBody_stop h

theorem runBody_xbSend (s : State) : s.runBody .xbSend = (sent s).runBody .xbReceive :=
  runBody_next rfl

theorem runBody_xbBegin (s : State) (b : Byte) : s.runBody (.xbBegin b) =
    match s.xc.txh with
    | some _ => waits { s with seq := { s.seq with xbByte := b } } .txReady
    | none => (sent { s with seq := { s.seq with xbByte := b } }).runBody .xbReceive := by
  cases h : s.xc.txh with
  | some c => exact runBody_stop (by simp [act, Xcvr.txRdy, h]; rfl)
  | none =>
    have hact : act (.xbBegin b) s = ({ s with seq := { s.seq with xbByte := b } }, some .xbSend) := by
      simp [act, Xcvr.txRdy, h]
    rw [runBody_next hact, runBody_xbSend]

theorem runBody_xbReceive (s : State) : s.runBody .xbReceive =
    match s.xc.rxf with
    | [] => waits s .rxReady
    | r :: rest => State.runBody { s with xc := { s.xc with rxf := rest } } (.xbReturn r) := by
  cases h : s.xc.rxf with
  | nil => exact runBody_stop (by simp [act, h]; rfl)
  | cons r rest => exact runBody_next (by simp [act, h])

/-! ### The end of a packet routine (R230, R235) -/

/-- A continuation says what the return of a packet routine does, for a command and a port of its loop. -/
def Returns (k : State → State) (x : Option Susp) (c : Option Cmd) (p : Port) : Prop :=
  ∀ u : State, u.seq.cur = c → u.seq.loopPort = p → u.st = .post → (suspAs x u).runBody .postDone = k u

section

variable {k : State → State} {x : Option Susp} {v : State}

/-- From the end of the trailing delay on. -/
theorem runBody_trailDone (hk : Returns k x v.seq.cur v.seq.loopPort) (q : SeqState) :
    (atPoint q x v).runBody .trailDone = released k v := by
  have hact : act .trailDone (atPoint q x v) =
      (atPoint .post x (lowered v)).delayThen v.cfg.tPostUs .postDone := by
    rw [act, driveAttn_release]
    rfl
  rw [runBody_of_delay hact, released]
  refine if_congr Iff.rfl ?_ rfl
  exact hk { lowered v with st := .post } rfl rfl rfl

theorem runBody_trail (hk : Returns k x v.seq.cur v.seq.loopPort) (q : SeqState) :
    (atPoint q x v).runBody .trail = trailed k v := by
  have hact : act .trail (atPoint q x v) =
      (atPoint .trail x v).delayThen v.cfg.tTrailUs .trailDone := rfl
  rw [runBody_of_delay hact, trailed, runBody_trailDone hk]
  rfl

/-! ### The send (R235) -/

/-- The request's next byte is inside its buffer. -/
theorem srcByte_eq (h : v.seq.i < 64) (q : SeqState) :
    (atPoint q x v).srcByte v.seq.i = nextRequestByte v := by
  have hreq : reqbufAt v.seq.i = 0x40 + v.seq.i := reqbufAt_buffer.at_lt _ h
  have hpkt : pktAt v.seq.i = 0xC0 + v.seq.i := pktAt_buffer.at_lt _ h
  unfold State.srcByte nextRequestByte req pkt
  rw [hreq, hpkt]
  rfl

/-- The state in which XNA's next byte is given to XB. -/
def sendingNext (v : State) : State :=
  { v with
    st := .naByte
    seq := { v.seq with i := v.seq.i + 1, rl := v.seq.rl - 1, xbByte := nextRequestByte v } }

/-- A reply to a request byte is dropped, and the inter-byte delay begins (R235). -/
theorem runBody_reply_naByte (hst : v.st = .naByte) (hi : v.seq.i ≠ 0) (r : Byte) :
    (suspAs x v).runBody (.xbReturn r) =
      if v.cfg.tIbdUs = 0 then (atPoint .naIbd x v).runBody .xnaNextByte
      else sleeps v .naIbd v.cfg.tIbdUs := by
  have hact : act (.xbReturn r) (suspAs x v) =
      (atPoint .naIbd x v).delayThen v.cfg.tIbdUs .xnaNextByte := by
    have hst : (suspAs x v).st = .naByte := hst
    have hi : ¬ (suspAs x v).seq.i = 0 := hi
    simp only [act, State.afterXb, hst, hi, if_false]
    rfl
  exact runBody_of_delay hact

theorem sendNext_done (fifo : List Byte) (hrl : v.seq.rl = 0) : sendNext k fifo v = trailed k v := by
  unfold sendNext
  rw [if_pos hrl]

/-- The loop's round, with its byte handed over in one step. -/
theorem sendNext_round (fifo : List Byte) (hrl : v.seq.rl ≠ 0) : sendNext k fifo v =
    match v.xc.txh with
    | some _ => waits (sendingNext v) .txReady
    | none =>
      match fifo with
      | [] => waits (sent (sendingNext v)) .rxReady
      | _ :: rest =>
        let y := { sent (sendingNext v) with xc := { (sent (sendingNext v)).xc with rxf := rest } }
        if v.cfg.tIbdUs = 0 then sendNext k rest y else sleeps y .naIbd v.cfg.tIbdUs := by
  rw [sendNext, if_neg hrl] <;> rfl

/-- The model's round as far as XB's reply. -/
theorem runBody_xnaNextByte_round (hrl : v.seq.rl ≠ 0) (hi : v.seq.i < 64) (q : SeqState) :
    (atPoint q x v).runBody .xnaNextByte =
      match v.xc.txh with
      | some _ => waits (sendingNext v) .txReady
      | none => (suspAs x (sent (sendingNext v))).runBody .xbReceive := by
  have hact : act .xnaNextByte (atPoint q x v) =
      ({ atPoint .naByte x v with
        seq := { (atPoint .naByte x v).seq with i := v.seq.i + 1, rl := v.seq.rl - 1 } },
        some (.xbBegin (nextRequestByte v))) := by
    have hpos : (atPoint q x v).seq.rl > 0 := Nat.pos_of_ne_zero hrl
    rw [act, State.xnaNextByte, if_pos hpos, ← srcByte_eq (x := x) hi .naByte]
    rfl
  rw [runBody_next hact, runBody_xbBegin, ← sent_suspAs]
  rfl

/-- XNA's loop from its head. The byte read lies in the request's buffer as long as the loop's counters
or the bytes in the FIFO bound it. -/
theorem runBody_xnaNextByte {fifo : List Byte} (hk : Returns k x v.seq.cur v.seq.loopPort)
    (hf : v.xc.rxf = fifo) (hi : v.seq.i + fifo.length < 64 ∨ v.seq.i + v.seq.rl ≤ 64)
    (q : SeqState) : (atPoint q x v).runBody .xnaNextByte = sendNext k fifo v := by
  induction fifo generalizing v q with
  | nil =>
    by_cases hrl : v.seq.rl = 0
    · rw [sendNext_done _ hrl, ← runBody_trail hk q]
      exact runBody_next (if_neg (Nat.not_lt.mpr hrl.le))
    · rw [sendNext_round _ hrl, runBody_xnaNextByte_round hrl (by simp at hi; omega)]
      cases v.xc.txh with
      | some b => rfl
      | none =>
        rw [runBody_xbReceive, show (suspAs x (sent (sendingNext v))).xc.rxf = [] from
          (sent_rxf _).trans hf]
        rfl
  | cons r rest ih =>
    by_cases hrl : v.seq.rl = 0
    · rw [sendNext_done _ hrl, ← runBody_trail hk q]
      exact runBody_next (if_neg (Nat.not_lt.mpr hrl.le))
    · rw [sendNext_round _ hrl, runBody_xnaNextByte_round hrl (by simp at hi; omega)]
      cases v.xc.txh with
      | some b => rfl
      | none =>
        have hrxf : (suspAs x (sent (sendingNext v))).xc.rxf = r :: rest := (sent_rxf _).trans hf
        have hseq : (sent (sendingNext v)).seq = (sendingNext v).seq := sent_seq _
        rw [runBody_xbReceive, hrxf]
        refine (runBody_reply_naByte (v := { sent (sendingNext v) with
          xc := { (sent (sendingNext v)).xc with rxf := rest } }) (sent_st _) ?_ r).trans ?_
        · simp [sendingNext]
        · refine if_congr (by simp [sendingNext]) (ih ?_ rfl ?_ _) (by simp [sendingNext])
          · simpa [sendingNext] using hk
          · simp only [List.length_cons] at hi
            change (sent (sendingNext v)).seq.i + _ < 64 ∨ (sent (sendingNext v)).seq.i +
              (sent (sendingNext v)).seq.rl ≤ 64
            rw [hseq]
            change v.seq.i + 1 + _ < 64 ∨ v.seq.i + 1 + (v.seq.rl - 1) ≤ 64
            omega

/-- The address byte's reply is dropped and the FIFO flushed. -/
theorem runBody_reply_naAddr (hk : Returns k x v.seq.cur v.seq.loopPort) (hst : v.st = .naByte)
    (hi : v.seq.i = 0) (r : Byte) : (suspAs x v).runBody (.xbReturn r) = sendAddressed k v := by
  have hact : act (.xbReturn r) (suspAs x v) =
      (atPoint v.st x { v with xc := { v.xc with rxf := [] } }, some .xnaNextByte) := by
    have hst : (suspAs x v).st = .naByte := hst
    have hi : (suspAs x v).seq.i = 0 := hi
    simp only [act, State.afterXb, hst, hi, if_true]
    rfl
  rw [runBody_next hact]
  exact runBody_xnaNextByte (v := { v with xc := { v.xc with rxf := [] } }) hk rfl
    (.inl (by simp [hi])) _

/-- The state in which XNA's address byte is given to XB. -/
def sendStarted (s : State) : State :=
  { attended s with
    st := .naByte
    seq := { (attended s).seq with
      i := 0, rl := (attended s).seq.rl0, xbByte := (attended s).seq.addr } }

theorem sendBegun_eq (s : State) : sendBegun k s =
    match (sendStarted s).xc.txh with
    | some _ => waits (sendStarted s) .txReady
    | none =>
      match (sent (sendStarted s)).xc.rxf with
      | [] => waits (sent (sendStarted s)) .rxReady
      | _ :: _ => sendAddressed k (sent (sendStarted s)) := by
  unfold sendBegun <;> rfl

/-- XNA from its first line. -/
theorem runBody_xnaStart (hk : Returns k x v.seq.cur v.seq.loopPort) (q : SeqState) :
    (atPoint q x v).runBody .xnaStart = sendBegun k v := by
  have hact : act .xnaStart (atPoint q x v) =
      ({ suspAs x (sendStarted v) with
        seq := { (suspAs x (sendStarted v)).seq with xbByte := v.seq.xbByte } },
        some (.xbBegin v.seq.addr)) := by
    rw [act, driveAttn_assert]
    rfl
  rw [runBody_next hact, runBody_xbBegin, sendBegun_eq]
  change (match v.xc.txh with
    | some _ => waits (sendStarted v) .txReady
    | none => (sent (suspAs x (sendStarted v))).runBody .xbReceive) = _
  change _ = (match v.xc.txh with
    | some _ => _
    | none => _)
  cases v.xc.txh with
  | some b => rfl
  | none =>
    rw [sent_suspAs, runBody_xbReceive]
    change (match (sent (sendStarted v)).xc.rxf with
      | [] => _
      | r :: rest => _) = _
    cases hrxf : (sent (sendStarted v)).xc.rxf with
    | nil => rfl
    | cons r rest =>
      refine (runBody_reply_naAddr (k := k) (v := { sent (sendStarted v) with
        xc := { (sent (sendStarted v)).xc with rxf := rest } }) ?_ (sent_st _) ?_ r).trans ?_
      · simpa [sendStarted, attended] using hk
      · simp [sendStarted, attended]
      · rfl

end

/-! ### The return of a packet routine (R205, R261 to R265) -/

/-- After the second port BCAST ends. -/
theorem returns_bcastEnded (x : Option Susp) : Returns bcastEnded x (some .bcast) .port1 := by
  intro u hc hp _
  have hc : (suspAs x u).seq.cur = some .bcast := hc
  have hp : (suspAs x u).seq.loopPort = .port1 := hp
  refine (runBody_stop (s' := bcastEnded (suspAs x u)) ?_).trans rfl
  simp only [act, State.afterPacket, State.bcastNext, hc, hp]
  rfl

theorem presenceMask_eq (s : State) : presenceMask s = presenceAfter s := by
  unfold presenceMask presenceAfter State.present
  have hiff : (s.seq.n == Config.probeRespExact && s.readByte (respbufAt 2) == s.cfg.markC2
      && s.readByte (respbufAt 3) == s.cfg.markC3) = true ↔
      s.seq.n = 5 ∧ resp s 2 = s.cfg.markC2 ∧ resp s 3 = s.cfg.markC3 := by
    simp [Config.probeRespExact, resp, respbufAt, and_assoc]
  refine if_congr hiff ?_ rfl
  cases s.seq.loopPort <;> rfl

/-- POLL's result in the statements' numbers: the sixteen wire bits' complement (R262). -/
theorem pollResult_eq (s : State) : s.pollResult =
    if 4 ≤ s.seq.n ∧ resp s 1 = s.cfg.markPad then
      BitVec.ofNat 16 (65535 - ((resp s 2).toNat + 256 * (resp s 3).toNat))
    else 0 := by
  refine if_congr Iff.rfl ?_ rfl
  apply BitVec.eq_of_toNat_eq
  rw [CommandLayer.buttonState_eq_not, BitVec.toNat_not, halfOf_toNat, BitVec.toNat_ofNat]
  exact (Nat.mod_eq_of_lt (by omega)).symm

/-- XP after T_PRE_US (R230). -/
theorem runBody_preDone (u : State) : u.runBody .preDone =
    waits { attended (caught u) with st := .settle } (.untilTick (u.now + 150)) := by
  refine runBody_stop ?_
  change (((State.driveAttn (caught u) true (caught u).xc.port).enter .settle).delayThen 150
    .settleDone) = _
  rw [driveAttn_assert]
  rfl

/-- XP from its first line (R230). -/
theorem runBody_xpStart (x : Option Susp) (v : State) (q : SeqState) :
    (atPoint q x v).runBody .xpStart = exchangeBegun v := by
  have hact : act .xpStart (atPoint q x v) = (atPoint .pre x v).delayThen v.cfg.tPreUs .preDone := rfl
  rw [runBody_of_delay hact, runBody_preDone, exchangeBegun]
  rfl

/-- PROBE's port from its choice on (R263). -/
theorem runBody_probePort {x : Option Susp} {v : State} {p : Port} (hp : v.seq.loopPort = p) :
    (suspAs x v).runBody .probePort = probing p v := by
  have hact : act .probePort (suspAs x v) =
      (atPoint v.st x (withArgs (putAt (moved v p) 0xC0
        [v.cfg.cmdProbe, 0x00, 0x00, 0x00, v.cfg.probeReq4]) v.cfg.addrCard .pkt 5 5),
        some .xpStart) := by
    have hmoved : (suspAs x v).driveAttn (suspAs x v).xc.attn (suspAs x v).seq.loopPort =
        suspAs x (moved v p) := by
      rw [Primitives.driveAttn_eq_moved, ← hp]
      rfl
    rw [act, hmoved]
    rfl
  have heta : { v with seq := { v.seq with loopPort := p } } = v := by rw [← hp]
  rw [runBody_next hact, runBody_xpStart, probing, heta]

theorem afterPacket_bcast {s : State} (hc : s.seq.cur = some .bcast) :
    s.afterPacket = s.bcastNext := by
  unfold State.afterPacket
  rw [hc] <;> rfl

theorem afterPacket_other {s : State} (hc : packetCommand s.seq.cur = false) :
    s.afterPacket = (s, none) := by
  unfold State.afterPacket
  split <;> simp_all [packetCommand]

theorem afterPacket_probe {s : State} (hc : s.seq.cur = some .probe) :
    s.afterPacket = State.probeNext { s with sresplen := BitVec.ofNat 8 s.seq.n } := by
  unfold State.afterPacket
  simp only [hc]

/-- BCAST after its first port (R265). -/
theorem runBody_postDone_bcast {s : State} (hc : s.seq.cur = some .bcast)
    (hp : s.seq.loopPort = .port0) :
    s.runBody .postDone =
      State.runBody { s with seq := { s.seq with loopPort := .port1 } } .bcastPort :=
  runBody_next ((afterPacket_bcast hc).trans (by unfold State.bcastNext; rw [hp] <;> rfl))

/-- PROBE after its first port (R263). -/
theorem runBody_postDone_probe {s : State} (hc : s.seq.cur = some .probe)
    (hp : s.seq.loopPort = .port0) :
    s.runBody .postDone = State.runBody { s with
      sresplen := BitVec.ofNat 8 s.seq.n
      seq := { s.seq with presence := presenceAfter s, loopPort := .port1 } } .probePort := by
  refine runBody_next ((afterPacket_probe hc).trans ?_)
  rw [probeNext_eq, presenceMask_eq]
  change (match s.seq.loopPort with
    | .port0 => _
    | .port1 => _) = _
  rw [hp] <;> rfl

/-- PROBE after its second port (R263). -/
theorem runBody_postDone_probe_last {s : State} (hc : s.seq.cur = some .probe)
    (hp : s.seq.loopPort = .port1) :
    s.runBody .postDone = ended { s with
      sresplen := BitVec.ofNat 8 s.seq.n
      sresult := BitVec.ofNat 16 (presenceAfter s).toNat
      seq := { s.seq with presence := presenceAfter s } } := by
  refine runBody_stop ((afterPacket_probe hc).trans ?_)
  rw [probeNext_eq, presenceMask_eq, BitVec.ofNat_toNat]
  change (match s.seq.loopPort with
    | .port0 => _
    | .port1 => _) = _
  rw [hp] <;> rfl

/-- BCAST's send on a port of its mask (R265). -/
theorem runBody_bcastPort_send {k : State → State} {x : Option Susp} {v : State}
    (hk : Returns k x v.seq.cur v.seq.loopPort) (hm : inMask v.seq.mask v.seq.loopPort = true) :
    (suspAs x v).runBody .bcastPort = sendBegun k (moved v v.seq.loopPort) := by
  have hact : act .bcastPort (suspAs x v) = (suspAs x (moved v v.seq.loopPort), some .xnaStart) := by
    have hmx : inMask (suspAs x v).seq.mask (suspAs x v).seq.loopPort = true := hm
    rw [act, if_pos hmx, Primitives.driveAttn_eq_moved]
    rfl
  rw [runBody_next hact]
  exact runBody_xnaStart (v := moved v v.seq.loopPort) hk v.st

/-- BCAST's end after a port that its mask has not (R265). -/
theorem runBody_bcastPort_end {x : Option Susp} {v : State} (hp : v.seq.loopPort = .port1)
    (hm : v.seq.mask.getLsbD 1 = false) : (suspAs x v).runBody .bcastPort = bcastEnded v := by
  have hpx : (suspAs x v).seq.loopPort = .port1 := hp
  have hmx : ¬ inMask (suspAs x v).seq.mask .port1 = true := ne_true_of_eq_false hm
  refine (runBody_stop ?_).trans rfl
  rw [act, hpx, if_neg hmx, State.bcastNext, hpx] <;> rfl

/-- BCAST's second port (R265). -/
theorem runBody_bcastPort_last {x : Option Susp} {v : State} (hc : v.seq.cur = some .bcast)
    (hp : v.seq.loopPort = .port1) :
    (suspAs x v).runBody .bcastPort =
      if v.seq.mask.getLsbD 1 then sendBegun bcastEnded (moved v .port1) else bcastEnded v := by
  split_ifs with hm
  · rw [← hp]
    refine runBody_bcastPort_send ?_ (by rw [hp]; exact hm)
    rw [hc, hp]
    exact returns_bcastEnded x
  · exact runBody_bcastPort_end hp (eq_false_of_ne_true hm)

/-- What every packet routine returns to, where its command is one that runs it, or SUSP is empty. -/
theorem returns_packetEnded {x : Option Susp} {c : Option Cmd}
    (h : packetCommand c = true ∨ x = none) (p : Port) : Returns packetEnded x c p := by
  rintro u rfl rfl _
  unfold packetEnded
  split
  case h_1 hc =>
    have hcx : (suspAs x u).seq.cur = some .xchg := hc
    refine (runBody_stop (by simp only [act, State.afterPacket, hcx]; rfl)).trans rfl
  case h_2 hc =>
    have hcx : (suspAs x u).seq.cur = some .xnoack := hc
    refine (runBody_stop (by simp only [act, State.afterPacket, hcx]; rfl)).trans rfl
  case h_3 hc =>
    have hcx : (suspAs x u).seq.cur = some .poll := hc
    refine (runBody_stop (by simp only [act, State.afterPacket, hcx, pollResult_eq]; rfl)).trans rfl
  case h_4 hc hp =>
    rw [runBody_postDone_probe (s := suspAs x u) hc hp]
    refine (runBody_probePort (p := .port1) (v := { u with
      sresplen := BitVec.ofNat 8 u.seq.n
      seq := { u.seq with presence := presenceAfter u, loopPort := .port1 } }) rfl).trans rfl
  case h_5 hc hp =>
    exact (runBody_postDone_probe_last (s := suspAs x u) hc hp).trans rfl
  case h_6 hc hp =>
    rw [runBody_postDone_bcast (s := suspAs x u) hc hp]
    exact runBody_bcastPort_last (v := { u with seq := { u.seq with loopPort := .port1 } }) hc rfl
  case h_7 hc hp => exact returns_bcastEnded x u hc hp ‹_›
  case h_8 hxchg hxna hpoll hprobe0 hprobe1 hbcast0 hbcast1 =>
    have hno : packetCommand u.seq.cur = false := by
      unfold packetCommand
      split <;> simp_all
      all_goals cases hp : u.seq.loopPort <;> simp_all
    obtain hc | rfl := h
    · rw [hno] at hc
      cases hc
    · exact (runBody_stop (a := .postDone) (afterPacket_other (s := suspAs none u) hno)).trans rfl

end Sys2Proof.Routines
end

section
/-! PROOFS. The exchange of R230 as a whole body, what each wake-up of the sequencer does (R201 to R203,
R230, R235), and the statements about the delays, the byte exchanges, the waiter's checks and the ends of
the packet commands. -/

namespace Sys2Proof.Wakes

open Sys2Proof.Machine Sys2Proof.Claims Sys2Proof.HostWrites Sys2Proof.Bodies Sys2Proof.Routines

/-! ### The waiter (R203) -/

/-- The head of WAIT's loop. -/
theorem runBody_waitCheck (s : State) : s.runBody .waitCheck =
    if s.seq.rem ≤ 0 then s.runBody (.waitReturn false)
    else if s.ack then (caught s).runBody (.waitReturn true)
    else waits s (.untilTick (s.now + 10)) := by
  split_ifs with hrem hack
  · exact runBody_next (by rw [act, if_pos hrem])
  · exact runBody_next (by rw [act, if_neg hrem, if_pos hack]; rfl)
  · exact runBody_stop (by rw [act, if_neg hrem, if_neg hack]; rfl)

/-- The waiter's budget of T_ACK_US (R203, R230). -/
def budgeted (v : State) : State := { v with seq := { v.seq with rem := 120 } }

section

variable {k : State → State} {x : Option Susp} {v : State}

/-- WAIT(T_ACK_US) from its first line. -/
theorem runBody_waitBegin (q : SeqState) : (atPoint q x v).runBody (.waitBegin 120) =
    if v.ack then (atPoint q x (caught (budgeted v))).runBody (.waitReturn true)
    else sleeps (budgeted v) q 10 := by
  have hact : act (.waitBegin 120) (atPoint q x v) = (atPoint q x (budgeted v), some .waitCheck) := rfl
  have hrem : ¬ (atPoint q x (budgeted v)).seq.rem ≤ 0 := by change ¬ (120 : Int) ≤ 0; decide
  rw [runBody_next hact, runBody_waitCheck, if_neg hrem]
  rfl

/-- The loop's round goes on from the same point in DATAACK. -/
theorem runBody_waited_data (v : State) : (atPoint .dataAck x v).runBody (.waitReturn true) =
    (atPoint .dataAck x v).runBody .xpNextByte := runBody_next rfl

/-- After the address the counters start anew and the FIFO is flushed. -/
theorem runBody_waited_addr (v : State) : (atPoint .addrAck x v).runBody (.waitReturn true) =
    (atPoint .addrAck x { v with
      xc := { v.xc with rxf := [] }
      seq := { v.seq with n := 0, i := 0, rl := v.seq.rl0 } }).runBody .xpNextByte := runBody_next rfl

/-- WAITACK's end (R208). -/
theorem runBody_waited_cmd (hst : v.st = .waitCmd) (ok : Bool) :
    (suspAs x v).runBody (.waitReturn ok) = ended { v with sresult := if ok then 1 else 0 } := by
  have hstx : (suspAs x v).st = .waitCmd := hst
  refine (runBody_stop ?_).trans rfl
  simp only [act, State.afterWait, hstx]
  rfl

theorem atPoint_self {q : SeqState} (hst : v.st = q) : suspAs x v = atPoint q x v := by
  rw [← hst]
  rfl

/-! ### The exchange's loop (R230) -/

/-- The state in which XP's next byte is given to XB. -/
def exchangingNext (v : State) : State :=
  { v with
    st := .xfer
    seq := { v.seq with
      i := if v.seq.rl = 0 then v.seq.i else v.seq.i + 1
      rl := v.seq.rl - 1
      xbByte := if v.seq.rl = 0 then 0x00 else nextRequestByte v } }

theorem exchangeNext_eq (v : State) : exchangeNext k v =
    if v.seq.cap ≤ v.seq.n then trailed k v
    else
      match v.xc.txh with
      | some _ => waits (exchangingNext v) .txReady
      | none =>
        match (sent (exchangingNext v)).xc.rxf with
        | [] => waits (sent (exchangingNext v)) .rxReady
        | r :: rest => sleeps (budgeted (stored r { sent (exchangingNext v) with
            xc := { (sent (exchangingNext v)).xc with rxf := rest } })) .dataAck 10 := by
  unfold exchangeNext <;> rfl

/-- The reply to a byte of the loop is stored, and the waiter begins. -/
theorem runBody_reply_xfer (hst : v.st = .xfer) (hn : v.seq.n < 64) (r : Byte) :
    (suspAs x v).runBody (.xbReturn r) = (atPoint .dataAck x (stored r v)).runBody (.waitBegin 120) := by
  have hstx : (suspAs x v).st = .xfer := hst
  have hat : respbufAt (suspAs x v).seq.n = 0x80 + v.seq.n := respbufAt_buffer.at_lt _ hn
  refine runBody_next ?_
  simp only [act, State.afterXb, hstx, hat]
  rfl

/-- The model's round as far as XB's reply. -/
theorem runBody_xpNextByte_round (hn : v.seq.n < v.seq.cap) (hi : v.seq.rl ≠ 0 → v.seq.i < 64)
    (q : SeqState) : (atPoint q x v).runBody .xpNextByte =
      match v.xc.txh with
      | some _ => waits (exchangingNext v) .txReady
      | none => (suspAs x (sent (exchangingNext v))).runBody .xbReceive := by
  have hround : (atPoint q x v).runBody .xpNextByte =
      (suspAs x { exchangingNext v with
        seq := { (exchangingNext v).seq with xbByte := v.seq.xbByte } }).runBody
        (.xbBegin (exchangingNext v).seq.xbByte) := by
    refine runBody_next ?_
    have hn : (atPoint q x v).seq.n < (atPoint q x v).seq.cap := hn
    rw [act, State.xpNextByte, if_pos hn]
    by_cases hrl : v.seq.rl = 0
    · have hrlx : ¬ ((atPoint q x v).enter .xfer).seq.rl > 0 := by
        change ¬ v.seq.rl > 0
        omega
      have hrest : v.seq.rl - 1 = v.seq.rl := by omega
      simp only [if_neg hrlx, exchangingNext, if_pos hrl, hrest]
      rfl
    · have hrlx : ((atPoint q x v).enter .xfer).seq.rl > 0 := Nat.pos_of_ne_zero hrl
      simp only [if_pos hrlx, exchangingNext, if_neg hrl]
      rw [← srcByte_eq (x := x) (hi hrl) .xfer]
      rfl
  rw [hround, runBody_xbBegin, ← sent_suspAs]
  rfl

/-- XP's loop from its head, no pulse being latched. -/
theorem runBody_xpNextByte (hk : Returns k x v.seq.cur v.seq.loopPort) (hack : v.ack = false)
    (hn : v.seq.n < v.seq.cap → v.seq.n < 64) (hi : v.seq.rl ≠ 0 → v.seq.i < 64) (q : SeqState) :
    (atPoint q x v).runBody .xpNextByte = exchangeNext k v := by
  rw [exchangeNext_eq]
  by_cases hcap : v.seq.cap ≤ v.seq.n
  · rw [if_pos hcap, ← runBody_trail hk q]
    exact runBody_next (if_neg (Nat.not_lt.mpr hcap))
  rw [if_neg hcap, runBody_xpNextByte_round (by omega) hi]
  cases v.xc.txh with
  | some b => rfl
  | none =>
    rw [runBody_xbReceive]
    change (match (sent (exchangingNext v)).xc.rxf with
      | [] => _
      | r :: rest => _) = _
    cases hrxf : (sent (exchangingNext v)).xc.rxf with
    | nil => rfl
    | cons r rest =>
      have hack' : (sent (exchangingNext v)).ack = false := (sent_ack _).trans hack
      refine (runBody_reply_xfer (v := { sent (exchangingNext v) with
        xc := { (sent (exchangingNext v)).xc with rxf := rest } }) (sent_st _) ?_ r).trans ?_
      · change (sent (exchangingNext v)).seq.n < 64
        rw [sent_seq]
        exact hn (by omega)
      · rw [runBody_waitBegin]
        exact if_neg (ne_true_of_eq_false hack')

/-- The waiter's first check, after the address byte's reply. -/
theorem runBody_firstCheck_addr (hk : Returns k x v.seq.cur v.seq.loopPort) (hst : v.st = .addr) :
    (atPoint .addrAck x v).runBody (.waitBegin 120) = firstCheck k v := by
  unfold firstCheck
  rw [runBody_waitBegin, hst]
  refine if_congr Iff.rfl ?_ rfl
  rw [runBody_waited_addr]
  exact runBody_xpNextByte (v := { caught (budgeted v) with
    xc := { (caught (budgeted v)).xc with rxf := [] }
    seq := { (budgeted v).seq with n := 0, i := 0, rl := v.seq.rl0 } })
    hk rfl (fun _ => Nat.zero_lt_succ _) (fun _ => Nat.zero_lt_succ _) _

/-- The waiter's first check, after a byte of the loop. -/
theorem runBody_firstCheck_data (hk : Returns k x v.seq.cur v.seq.loopPort) (hst : v.st = .xfer)
    (hn : v.seq.n < v.seq.cap → v.seq.n < 64) (hi : v.seq.rl ≠ 0 → v.seq.i < 64) :
    (atPoint .dataAck x v).runBody (.waitBegin 120) = firstCheck k v := by
  unfold firstCheck
  rw [runBody_waitBegin, hst]
  refine if_congr Iff.rfl ?_ rfl
  rw [runBody_waited_data]
  exact runBody_xpNextByte (v := caught (budgeted v)) hk rfl hn hi _

/-! ### The reply of a byte exchange, by STATE (R209, R230, R235) -/

/-- Where a byte exchange returns, with the bounds under which its counters index the buffers. -/
inductive ReplyPoint (v : State) : Prop where
  | byteCmd (h : v.st = .byteCmd)
  | addr (h : v.st = .addr)
  | xfer (h : v.st = .xfer) (hn : v.seq.n < 64) (hcap : v.seq.cap ≤ 64)
      (hi : v.seq.rl ≠ 0 → v.seq.i < 64)
  | naByte (h : v.st = .naByte) (hi : v.seq.i + v.seq.rl ≤ 64)

/-- XBYTE's end (R209). -/
theorem runBody_reply_byteCmd (hst : v.st = .byteCmd) (r : Byte) :
    (suspAs x v).runBody (.xbReturn r) = ended { v with sresult := BitVec.ofNat 16 r.toNat } := by
  have hstx : (suspAs x v).st = .byteCmd := hst
  rw [BitVec.ofNat_toNat]
  exact (runBody_stop (by simp only [act, State.afterXb, hstx]; rfl)).trans rfl

theorem runBody_xbReturn (hk : Returns k x v.seq.cur v.seq.loopPort) (h : ReplyPoint v) (r : Byte) :
    (suspAs x v).runBody (.xbReturn r) = replied k r v := by
  unfold replied
  cases h with
  | byteCmd hst =>
    rw [hst]
    exact runBody_reply_byteCmd hst r
  | addr hst =>
    have hstx : (suspAs x v).st = .addr := hst
    rw [hst]
    refine (runBody_next (s' := atPoint .addrAck x v) (a' := .waitBegin 120) ?_).trans
      (runBody_firstCheck_addr hk hst)
    simp only [act, State.afterXb, hstx]
    rfl
  | xfer hst hn hcap hi =>
    rw [hst, runBody_reply_xfer hst hn]
    exact runBody_firstCheck_data (v := stored r v) hk hst
      (fun h => Nat.lt_of_lt_of_le h hcap) hi
  | naByte hst hi =>
    rw [hst]
    by_cases hi0 : v.seq.i = 0
    · rw [runBody_reply_naAddr hk hst hi0]
      exact (if_pos hi0).symm
    · rw [runBody_reply_naByte hst hi0]
      refine Eq.trans ?_ (if_neg hi0).symm
      exact if_congr Iff.rfl (runBody_xnaNextByte hk rfl (.inr hi) _) rfl

end

/-! ### Where the sequencer phase goes on (R201) -/

theorem sequencerPhase_resumes {s : State} {w : Susp} {a : Act} (hs : s.seq.susp = some w)
    (hh : s.suspHolds w = true) (hr : resumePoint s.st w = some a) :
    s.sequencerPhase = (suspAs none s).runBody a := by
  unfold State.sequencerPhase
  rw [hs]
  simp only [hh, if_true, hr]
  rfl

theorem sequencerPhase_waits {s : State} {w : Susp} (hs : s.seq.susp = some w)
    (hh : s.suspHolds w = false) : s.sequencerPhase = s := by
  unfold State.sequencerPhase
  rw [hs]
  simp only [hh, Bool.false_eq_true, if_false]

/-- A delay that ends at this tick. -/
theorem sequencerPhase_slept {s : State} {t : Tick} {a : Act} (hs : s.seq.susp = some (.untilTick t))
    (ht : t = s.now) (hr : resumePoint s.st (.untilTick t) = some a) :
    s.sequencerPhase = (suspAs none s).runBody a :=
  sequencerPhase_resumes hs (by simp [State.suspHolds, ht]) hr

theorem sequencerPhase_sleeps {s : State} {t : Tick} (hs : s.seq.susp = some (.untilTick t))
    (ht : t ≠ s.now) : s.sequencerPhase = s :=
  sequencerPhase_waits hs (by simpa [State.suspHolds] using ht)

/-- What every packet routine returns to, at a wake-up. -/
theorem returns_awake (s : State) : Returns packetEnded none s.seq.cur s.seq.loopPort :=
  returns_packetEnded (.inr rfl) _

/-! ### The bounds that the invariant gives at a point of a body (R211, R232) -/

theorem ReplyPoint.congr {u v : State} (h : ReplyPoint v) (hst : u.st = v.st) (hseq : u.seq = v.seq) :
    ReplyPoint u := by
  cases h with
  | byteCmd h => exact .byteCmd (hst.trans h)
  | addr h => exact .addr (hst.trans h)
  | xfer h hn hcap hi => exact .xfer (hst.trans h) (hseq ▸ hn) (hseq ▸ hcap) (hseq ▸ hi)
  | naByte h hi => exact .naByte (hst.trans h) (hseq ▸ hi)

/-- The states of the exchange's loop belong to commands that exchange. -/
theorem exchanges_of_waitsAt {c : Cmd} {st : SeqState} {w : Susp} (h : waitsAt c st w = true)
    (hst : st = .xfer ∨ st = .dataAck) : c.exchanges = true := by
  obtain rfl | rfl := hst
  · cases w with
    | untilTick t => cases h
    | txReady | rxReady => exact h
  · cases w with
    | untilTick t => exact h
    | txReady | rxReady => cases h

/-- The states of the send's loop belong to commands that send. -/
theorem sends_of_waitsAt {c : Cmd} {st : SeqState} {w : Susp} (h : waitsAt c st w = true)
    (hst : st = .naByte ∨ st = .naIbd) : c.sends = true := by
  obtain rfl | rfl := hst
  · cases w with
    | untilTick t => cases h
    | txReady | rxReady => exact h
  · cases w with
    | untilTick t => exact h
    | txReady | rxReady => cases h

/-- In the exchange's loop the counters index the buffers. -/
theorem exchange_bounds {s : State} (h : Underway s) (hst : s.st = .xfer ∨ s.st = .dataAck) :
    s.seq.cap ≤ 64 ∧ (s.seq.rl ≠ 0 → s.seq.i < 64) ∧ (s.st = .xfer → s.seq.n < 64) := by
  obtain ⟨hcount, c, w, hc, -, hw⟩ := h
  have hex := exchanges_of_waitsAt hw hst
  have hcap := hcount.capacity c hc hex
  have hreq := hcount.request c hc (by simp [hex])
  have hsum : s.seq.i + s.seq.rl = s.seq.rl0 := by
    obtain hst | hst := hst
    · exact (hcount.sending hst).2.2
    · exact (hcount.waiting hst).2.2
  exact ⟨hcap, fun _ => by omega, fun hst => (hcount.sending hst).1.trans_le hcap⟩

/-- In the send's loop the index and the bytes left make up the request. -/
theorem send_bounds {s : State} (h : Underway s) (hst : s.st = .naByte ∨ s.st = .naIbd) :
    s.seq.i + s.seq.rl ≤ 64 := by
  obtain ⟨hcount, c, w, hc, -, hw⟩ := h
  have hreq := hcount.request c hc (by simp [sends_of_waitsAt hw hst])
  have hsum := hcount.noAck hst
  omega

theorem replyPoint_of_underway {s : State}
    (h : s.st = .byteCmd ∨ ((s.st = .addr ∨ s.st = .xfer ∨ s.st = .naByte) ∧ Underway s)) :
    ReplyPoint s := by
  obtain hst | ⟨hst | hst | hst, hs⟩ := h
  · exact .byteCmd hst
  · exact .addr hst
  · obtain ⟨hcap, hi, hn⟩ := exchange_bounds hs (.inl hst)
    exact .xfer hst (hn hst) hcap hi
  · exact .naByte hst (send_bounds hs (.inl hst))

/-! ### The wake-ups of a byte exchange (R202) -/

section

variable {k : State → State} {x : Option Susp} {v : State}

/-- XB once TXRDY holds. -/
theorem runBody_byteGiven (hk : Returns k x v.seq.cur v.seq.loopPort) (h : ReplyPoint v) :
    (suspAs x v).runBody .xbSend = byteGiven k v := by
  rw [runBody_xbSend, sent_suspAs, runBody_xbReceive]
  change (match (sent v).xc.rxf with
    | [] => _
    | r :: rest => _) = (match (sent v).xc.rxf with
    | [] => _
    | r :: rest => _)
  cases (sent v).xc.rxf with
  | nil => rfl
  | cons r rest =>
    exact runBody_xbReturn (v := { sent v with xc := { (sent v).xc with rxf := rest } })
      (by simpa using hk) (h.congr (sent_st _) (sent_seq _)) r

/-- XP after T_SETTLE_US. -/
theorem runBody_settleDone (hk : Returns k x v.seq.cur v.seq.loopPort) :
    (suspAs x v).runBody .settleDone = exchangeAddressed k v := by
  have hact : act .settleDone (suspAs x v) = (atPoint .addr x v, some (.xbBegin v.seq.addr)) := rfl
  rw [runBody_next hact, runBody_xbBegin, exchangeAddressed]
  change (match v.xc.txh with
    | some _ => _
    | none => _) = (match v.xc.txh with
    | some _ => _
    | none => _)
  cases v.xc.txh with
  | some b => rfl
  | none =>
    rw [← runBody_xbSend]
    exact runBody_byteGiven (v := { v with
      st := .addr, seq := { v.seq with xbByte := v.seq.addr } }) hk (.addr rfl)

end

/-! ### What a request in PKT is read as (R261, R263, R265) -/

/-- Bytes stored at rising offsets are read back there, and every other byte stays. -/
theorem readByte_putAt (v : State) (a : Nat) (bs : List Byte) (x : Nat) :
    (putAt v a bs).readByte x =
      if a ≤ x then (bs[x - a]?).getD (v.readByte x) else v.readByte x := by
  induction bs generalizing v a with
  | nil => simp [putAt]
  | cons b bs ih =>
    rw [putAt, ih, readByte_writeByte]
    obtain h | rfl | h := Nat.lt_trichotomy x a
    · rw [if_neg (by omega), if_neg (by omega), if_neg (by omega)]
    · simp
    · rw [if_pos (show a + 1 ≤ x from h), if_neg (Nat.ne_of_gt h), if_pos h.le,
        show x - a = x - (a + 1) + 1 by omega, List.getElem?_cons_succ]

/-- Storing bytes changes the memory list alone. -/
theorem putAt_eq (v : State) (a : Nat) (bs : List Byte) :
    putAt v a bs = { v with mem := (putAt v a bs).mem } := by
  induction bs generalizing v a with
  | nil => rfl
  | cons b bs ih =>
    rw [putAt, ih]
    rfl

/-- POLL's four bytes. -/
theorem readByte_putAt_poll (v : State) (cmd : Byte) (a : Nat) :
    (putAt v 0xC0 [cmd, 0x00, 0x00, 0x00]).readByte a =
      if a = 0xC0 then cmd else if 0xC1 ≤ a ∧ a ≤ 0xC3 then 0x00 else v.readByte a := by
  rw [readByte_putAt]
  obtain h | ⟨j, rfl⟩ := Nat.lt_or_ge a 0xC0 |>.imp_right Nat.exists_eq_add_of_le
  · rw [if_neg (by omega), if_neg (by omega), if_neg (by omega)]
  · obtain rfl | rfl | rfl | rfl | ⟨i, rfl⟩ : j = 0 ∨ j = 1 ∨ j = 2 ∨ j = 3 ∨ ∃ i, j = i + 4 := by
      obtain h | h := Nat.lt_or_ge j 4
      · omega
      · exact .inr (.inr (.inr (.inr ⟨j - 4, by omega⟩)))
    all_goals simp <;> omega

/-- PROBE's five bytes. -/
theorem readByte_putAt_probe (v : State) (cmd last : Byte) (a : Nat) :
    (putAt v 0xC0 [cmd, 0x00, 0x00, 0x00, last]).readByte a =
      if a = 0xC0 then cmd else if 0xC1 ≤ a ∧ a ≤ 0xC3 then 0x00
      else if a = 0xC4 then last else v.readByte a := by
  have happ : putAt v 0xC0 [cmd, 0x00, 0x00, 0x00, last] =
      (putAt v 0xC0 [cmd, 0x00, 0x00, 0x00]).writeByte 0xC4 last := rfl
  rw [happ, readByte_writeByte, readByte_putAt_poll]
  by_cases h : a = 0xC4
  · simp [h]
  · simp only [if_neg h]

/-! ### The obligations -/

section

variable {s : State} {t : Tick}

/-- The end of T_PRE_US (R230). -/
theorem sequencerPhase_pre (hst : s.st = .pre) (hs : s.seq.susp = some (.untilTick t))
    (ht : t = s.now) : s.sequencerPhase = sleeps (attended (caught s)) .settle 150 := by
  rw [sequencerPhase_slept hs ht (a := .preDone) (by rw [hst]; rfl), runBody_preDone]
  rfl

/-- The end of T_SETTLE_US (R230). -/
theorem sequencerPhase_settled (hst : s.st = .settle) (hs : s.seq.susp = some (.untilTick t))
    (ht : t = s.now) : s.sequencerPhase = exchangeAddressed packetEnded s := by
  rw [sequencerPhase_slept hs ht (a := .settleDone) (by rw [hst]; rfl)]
  exact runBody_settleDone (returns_awake s)

/-- The end of T_TRAIL_US (R230, R235). -/
theorem sequencerPhase_trailed (hst : s.st = .trail) (hs : s.seq.susp = some (.untilTick t))
    (ht : t = s.now) : s.sequencerPhase = released packetEnded s := by
  rw [sequencerPhase_slept hs ht (a := .trailDone) (by rw [hst]; rfl)]
  exact runBody_trailDone (returns_awake s) s.st

/-- The end of T_IBD_US (R235). -/
theorem sequencerPhase_spaced (hst : s.st = .naIbd) (hs : s.seq.susp = some (.untilTick t))
    (ht : t = s.now) (hi : s.seq.i + s.seq.rl ≤ 64) :
    s.sequencerPhase = sendNext packetEnded s.xc.rxf s := by
  rw [sequencerPhase_slept hs ht (a := .xnaNextByte) (by rw [hst]; rfl)]
  exact runBody_xnaNextByte (returns_awake s) rfl (.inr hi) s.st

/-- A reply that has come (R202). -/
theorem sequencerPhase_replied (hpoint : ReplyPoint s) (hs : s.seq.susp = some .rxReady) {r : Byte}
    {rest : List Byte} (hrx : s.xc.rxf = r :: rest) :
    s.sequencerPhase = replied packetEnded r { s with xc := { s.xc with rxf := rest } } := by
  rw [sequencerPhase_resumes hs (a := .xbReceive) (by simp [State.suspHolds, Xcvr.rxRdy, hrx]) rfl,
    runBody_xbReceive]
  change (match s.xc.rxf with
    | [] => _
    | r :: rest => _) = _
  rw [hrx]
  exact runBody_xbReturn (v := { s with xc := { s.xc with rxf := rest } }) (returns_awake s)
    (hpoint.congr rfl rfl) r

/-- A reply that is still to come. -/
theorem sequencerPhase_listens (hs : s.seq.susp = some .rxReady) (hrx : s.xc.rxf = []) :
    s.sequencerPhase = s :=
  sequencerPhase_waits hs (by simp [State.suspHolds, Xcvr.rxRdy, hrx])

end

/-- Settles O48: each delay's end is the body from its point on. -/
theorem endOfADelay : Obligations.EndOfADelay := fun _ _ hs =>
  ⟨fun ht => ⟨fun hst => sequencerPhase_pre hst hs ht,
    fun hst _ => sequencerPhase_settled hst hs ht, fun hst => sequencerPhase_trailed hst hs ht,
    fun hst hu => sequencerPhase_spaced hst hs ht (send_bounds hu (.inr hst))⟩,
    sequencerPhase_sleeps hs⟩

/-- Settles O49: both waits of XB and the reply by STATE. -/
theorem waitsOfAByteExchange : Obligations.WaitsOfAByteExchange := by
  intro s h
  have hpoint := replyPoint_of_underway h
  refine ⟨fun hs => ⟨fun htx => ?full, fun htx => ?given⟩, fun hs => ⟨sequencerPhase_listens hs,
    fun r rest => sequencerPhase_replied hpoint hs⟩, fun r a => ?stored⟩
  case full => exact sequencerPhase_waits hs (by simpa [State.suspHolds, Xcvr.txRdy] using htx)
  case given =>
    rw [sequencerPhase_resumes hs (a := .xbSend) (by simp [State.suspHolds, Xcvr.txRdy, htx]) rfl]
    exact runBody_byteGiven (returns_awake s) hpoint
  case stored => exact readByte_writeByte s (0x80 + s.seq.n) a r

/-- Settles O50: the budget's step, the head of WAIT's loop and what STATE makes of its answer. -/
theorem waiterChecks : Obligations.WaiterChecks := by
  intro s hs hst left u
  have hslept : s.sequencerPhase =
      if left ≤ 0 then (suspAs none u).runBody (.waitReturn false)
      else if s.ack then (suspAs none (caught u)).runBody (.waitReturn true)
      else sleeps u s.st 10 := by
    rw [sequencerPhase_slept hs rfl (a := .waitSlept) (by obtain h | h | h := hst <;> rw [h] <;> rfl)]
    exact (runBody_next rfl).trans (runBody_waitCheck (suspAs none u))
  refine ⟨fun hleft hack => ?again, fun hleft hack => ?caught, fun hleft => ?late⟩
  case again => rw [hslept, if_neg (not_le.mpr hleft), if_neg (ne_true_of_eq_false hack)]
  case caught =>
    have hok : s.sequencerPhase = (suspAs none (caught u)).runBody (.waitReturn true) := by
      rw [hslept, if_neg (not_le.mpr hleft), if_pos hack]
    refine ⟨fun hst => ?_, fun hst hu => ?_, fun hst hu => ?_⟩
    · rw [hok]
      exact runBody_waited_cmd (v := caught u) hst true
    · rw [hok, atPoint_self (v := caught u) hst, runBody_waited_addr]
      exact runBody_xpNextByte (k := packetEnded) (v := { caught u with
        xc := { (caught u).xc with rxf := [] }
        seq := { u.seq with n := 0, i := 0, rl := s.seq.rl0 } })
        (returns_awake s) rfl (fun _ => Nat.zero_lt_succ _) (fun _ => Nat.zero_lt_succ _) _
    · obtain ⟨hcap, hi, -⟩ := exchange_bounds hu (.inr hst)
      rw [hok, atPoint_self (v := caught u) hst, runBody_waited_data]
      exact runBody_xpNextByte (v := caught u) (returns_awake s) rfl
        (fun h => h.trans_le hcap) hi _
  case late =>
    have hno : s.sequencerPhase = (suspAs none u).runBody (.waitReturn false) := by
      rw [hslept, if_pos hleft]
    refine ⟨fun hst => ?_, fun hst => ?_, fun hst => ?_⟩
    · rw [hno]
      exact runBody_waited_cmd (v := u) hst false
    · rw [hno, atPoint_self (v := u) hst]
      refine (runBody_next rfl).trans (runBody_trail (k := packetEnded) (v := { u with
        seq := { u.seq with n := 0, i := 0, rl := s.seq.rl0 } }) (returns_awake s) .addrAck)
    · rw [hno, atPoint_self (v := u) hst]
      exact (runBody_next rfl).trans (runBody_trail (v := u) (returns_awake s) .dataAck)

/-- The end of the post-release delay is the routine's return. -/
theorem sequencerPhase_posted {s : State} {t : Tick} (hst : s.st = .post)
    (hs : s.seq.susp = some (.untilTick t)) (ht : t = s.now) : s.sequencerPhase = packetEnded s := by
  rw [sequencerPhase_slept hs ht (a := .postDone) (by rw [hst]; rfl)]
  exact returns_awake s s rfl rfl hst

/-- Settles O51: the routine's return, by command. -/
theorem endOfAPacket : Obligations.EndOfAPacket := by
  intro s t hst hs ht
  rw [sequencerPhase_posted hst hs ht]
  unfold packetEnded
  refine ⟨fun hc => ?_, fun hc => ?_, fun hc => ?_⟩ <;> rw [hc]

/-- Attention's rise and the suspension leave the buffers. -/
theorem readByte_exchangeBegun (v : State) (a : Nat) :
    (exchangeBegun v).readByte a = v.readByte a := by
  unfold exchangeBegun
  split_ifs <;> rfl

/-- PROBE's request on a port. -/
theorem readByte_probing (p : Port) (v : State) (a : Nat) : (probing p v).readByte a =
    if a = 0xC0 then v.cfg.cmdProbe else if 0xC1 ≤ a ∧ a ≤ 0xC3 then 0x00
    else if a = 0xC4 then v.cfg.probeReq4 else v.readByte a := by
  have hmoved : (moved { v with seq := { v.seq with loopPort := p } } p).readByte a = v.readByte a := rfl
  have hargs (u : State) (addr : Byte) (src : ReqSrc) (rl0 cap : Nat) :
      (withArgs u addr src rl0 cap).readByte a = u.readByte a := rfl
  rw [probing, readByte_exchangeBegun, hargs, readByte_putAt_probe, hmoved]

/-- Settles O52: the routine's return, by command and port, and the request read back. -/
theorem endOfProbeAndBcast : Obligations.EndOfProbeAndBcast := by
  intro s t hst hs ht present counted onPort1
  rw [sequencerPhase_posted hst hs ht]
  refine ⟨fun hc hp => ?_, fun hc hp => ?_, fun hc hp => ⟨fun hm => ?_, fun hm => ?_⟩,
    fun hc hp => ?_, fun a => ?_⟩
  · unfold packetEnded presenceAfter
    rw [hc, hp]
  · unfold packetEnded presenceAfter
    rw [hc, hp]
  · unfold packetEnded
    rw [hc, hp]
    exact if_pos hm
  · unfold packetEnded
    rw [hc, hp]
    exact if_neg (ne_true_of_eq_false hm)
  · unfold packetEnded
    rw [hc, hp] <;> rfl
  · exact readByte_probing .port1 s a

end Sys2Proof.Wakes
end

section
/-! PROOFS. The STARTs of the commands: when one is rejected and with what code, what each leaves at its
first suspension or its end, the write of SCMD, and one step of the machine. -/

namespace Sys2Proof.Starts

open Sys2Proof.Machine Sys2Proof.Claims Sys2Proof.HostWrites Sys2Proof.Bodies Sys2Proof.Routines
  Sys2Proof.Wakes Sys2Proof.EveryStep

/-! ### The text's end and the identifier check (R265, R266) -/

theorem req_eq_reqbufAt {k : Nat} (hk : k < 64) (s : State) : s.readByte (reqbufAt k) = req s k := by
  rw [reqbufAt_buffer.at_lt _ hk]
  rfl

/-- The text's length is the index of the first zero byte. -/
theorem textLength_eq_some {s : State} {ls : Nat} : s.textLength = some ls ↔
    ls < 64 ∧ req s ls = 0 ∧ ∀ k < ls, req s k ≠ 0 := by
  unfold State.textLength
  rw [List.find?_range_eq_some]
  constructor
  · rintro ⟨hzero, hmem, hall⟩
    have hls : ls < 64 := List.mem_range.mp hmem
    refine ⟨hls, by simpa [req_eq_reqbufAt hls] using hzero, fun k hk => ?_⟩
    simpa [req_eq_reqbufAt (hk.trans hls)] using hall k hk
  · rintro ⟨hls, hzero, hall⟩
    refine ⟨by simpa [req_eq_reqbufAt hls] using hzero, List.mem_range.mpr hls, fun k hk => ?_⟩
    simpa [req_eq_reqbufAt (hk.trans hls)] using hall k hk

/-- A zero byte in the buffer gives the text an end at it or before it. -/
theorem textLength_le {s : State} {k : Nat} (hk : k < 64) (hzero : req s k = 0) :
    ∃ ls ≤ k, s.textLength = some ls := by
  cases htext : s.textLength with
  | none =>
    have hall := List.find?_range_eq_none.mp htext k hk
    simp [req_eq_reqbufAt hk, hzero] at hall
  | some ls =>
    obtain ⟨-, -, hall⟩ := textLength_eq_some.mp htext
    exact ⟨ls, Nat.le_of_not_lt fun h => hall k h hzero, rfl⟩

theorem idOk_iff (s : State) : s.idOk = true ↔ IdOk s := by
  constructor
  · intro h
    unfold State.idOk at h
    split at h
    · next ls htext =>
      obtain ⟨-, hzero, -⟩ := textLength_eq_some.mp htext
      have hfit : 3 + (ls + 1) ≤ 64 := of_decide_eq_true h
      exact ⟨ls, by omega, hzero⟩
    · cases h
  · rintro ⟨k, hk, hzero⟩
    obtain ⟨ls, hls, htext⟩ := textLength_le (show k < 64 by omega) hzero
    have hfit : Config.bcastHdr + (ls + 1) ≤ Config.reqCap := by
      change 3 + (ls + 1) ≤ 64
      omega
    unfold State.idOk
    rw [htext]
    exact decide_eq_true hfit

/-! ### The causes of a rejection (R200, R301) -/

theorem configured_eq_false_iff (x : Xcvr) : x.configured = false ↔ ¬ Configured x := by
  rw [← Bool.not_eq_true, configured_iff, lineOk_iff]

theorem operandError_eq (c : Cmd) (s : State) : s.operandError c = startCode c s := by
  have hid : s.idOk = false ↔ ¬ IdOk s := by rw [← Bool.not_eq_true, idOk_iff]
  unfold State.operandError startCode
  rw [ite_or]
  refine if_congr Iff.rfl rfl (if_congr Iff.rfl rfl (if_congr (and_congr Iff.rfl hid) rfl ?_))
  exact if_congr (and_congr Iff.rfl (configured_eq_false_iff s.xc)) rfl rfl

/-- SCMD has no part in the check. -/
theorem operandError_scmd (c : Cmd) (s : State) (v : Byte) :
    State.operandError { s with scmd := v } c = startCode c s :=
  operandError_eq c { s with scmd := v }

/-- A START with no cause against it, from an idle state. -/
theorem exec_started {c : Cmd} {s : State} (hb : s.busy = false) (h : startCode c s = .noError) :
    exec (commandInstr c) s = .next ((accepted s c).launch c) :=
  Primitives.exec_commandInstr_accepted hb ((operandError_scmd c s _).trans h)

/-- Settles O34: the rejection, with the model's code, which is that of the statement. -/
theorem startRejections : Obligations.StartRejections := by
  intro c s hb hcode
  obtain ⟨-, hstart⟩ | ⟨hno, -⟩ := startCommand_cases { s with scmd := commandByte c } c
  · rw [Primitives.exec_commandInstr, State.issue, wrote_idle hb, hstart, operandError_scmd]
    rfl
  · exact absurd ((operandError_scmd c s _).symm.trans hno) hcode

/-! ### The write of SCMD (R93, R99, R136) -/

/-- A byte that is not reserved is the value of a command. -/
theorem commandByte_of_not_reserved {b : Byte} (h : reservedCommand b = false) :
    ∃ c, b = commandByte c := by
  have hnot := mt (Primitives.reservedCommand_iff b).mpr (ne_true_of_eq_false h)
  have hval : b.toNat = 0x01 ∨ b.toNat = 0x02 ∨ b.toNat = 0x03 ∨ b.toNat = 0x04 ∨ b.toNat = 0x05 ∨
      b.toNat = 0x06 ∨ b.toNat = 0x10 ∨ b.toNat = 0x11 ∨ b.toNat = 0x12 := by omega
  obtain h | h | h | h | h | h | h | h | h := hval
  · exact ⟨.init, BitVec.eq_of_toNat_eq h⟩
  · exact ⟨.select, BitVec.eq_of_toNat_eq h⟩
  · exact ⟨.waitack, BitVec.eq_of_toNat_eq h⟩
  · exact ⟨.xbyte, BitVec.eq_of_toNat_eq h⟩
  · exact ⟨.xchg, BitVec.eq_of_toNat_eq h⟩
  · exact ⟨.xnoack, BitVec.eq_of_toNat_eq h⟩
  · exact ⟨.poll, BitVec.eq_of_toNat_eq h⟩
  · exact ⟨.probe, BitVec.eq_of_toNat_eq h⟩
  · exact ⟨.bcast, BitVec.eq_of_toNat_eq h⟩

theorem decodeCmd8_commandByte (c : Cmd) : decodeCmd8 (commandByte c) = commandInstr c := by
  cases c <;> rfl

theorem start_commandByte (c : Cmd) (s : State) : s.start (commandByte c) = s.startCommand c := by
  cases c <;> rfl

/-- The command line of a byte is the START of that byte, stored in SCMD. -/
theorem exec_decodeCmd8 (b : Byte) (s : State) :
    exec (decodeCmd8 b) s = s.wrote (State.start { s with scmd := b } b) := by
  cases hres : reservedCommand b with
  | true =>
    rw [Primitives.decodeCmd8_reserved hres, Primitives.start_reserved hres]
    rfl
  | false =>
    obtain ⟨c, rfl⟩ := commandByte_of_not_reserved hres
    rw [decodeCmd8_commandByte, Primitives.exec_commandInstr, start_commandByte]
    rfl

/-- Settles O32: both are the START of the byte, which keeps SCMD. -/
theorem commandByteWrite : Obligations.CommandByteWrite := by
  refine ⟨fun b s => (exec_decodeCmd8 b s).symm, fun h s => ?word, fun d b s hb hd => ?stored⟩
  case word =>
    rw [exec_decodeCmd8, ← Primitives.loByte_eq_ofNat]
    rfl
  case stored =>
    have hlow : dataLow d = b := by
      obtain rfl | ⟨h, rfl, rfl⟩ := hd
      · rfl
      · exact Primitives.loByte_eq_ofNat h
    rw [Primitives.exec_wrScmd_idle d hb, hlow]
    exact ⟨_, rfl, (Transceiver.start_internal { s with scmd := b } b).scmd⟩

/-! ### From the acceptance to the first suspension (R200, R206 to R209, R230, R235, R261 to R265) -/

/-- A command whose first actions go on with a body. -/
theorem launch_next {c : Cmd} {s s' : State} {a : Act} (h : commandEntry c s = (s', some a)) :
    s.launch c = s'.runBody a := by
  unfold State.launch
  rw [h]

theorem runBody_xpStart_self (s : State) : s.runBody .xpStart = exchangeBegun s :=
  runBody_xpStart s.seq.susp s s.st

/-- What the packet routines of a started command return to. -/
theorem returns_started {s : State} {c : Cmd} (hcur : s.seq.cur = some c)
    (hc : packetCommand (some c) = true) :
    Returns packetEnded s.seq.susp s.seq.cur s.seq.loopPort :=
  returns_packetEnded (.inl (hcur ▸ hc)) _

theorem startCode_waitack (s : State) : startCode .waitack s = .noError := by
  simp [startCode, Cmd.bus]

/-- Settles O37: the budget set to the timeout, and the head of WAIT's loop. -/
theorem waitackStart : Obligations.WaitackStart := by
  intro s hb u
  have hexec : exec .waitack s = .next (
      if (s.stimeout.toNat : Int) ≤ 0 then (atPoint .waitCmd s.seq.susp u).runBody (.waitReturn false)
      else if s.ack then (atPoint .waitCmd s.seq.susp (caught u)).runBody (.waitReturn true)
      else sleeps u .waitCmd 10) := by
    refine (exec_started hb (startCode_waitack s)).trans (congrArg _ ?_)
    rw [launch_next (c := .waitack) rfl]
    exact (runBody_next (s' := atPoint .waitCmd s.seq.susp u) rfl).trans (runBody_waitCheck _)
  have hzero : (s.stimeout.toNat : Int) ≤ 0 ↔ s.stimeout = 0 := by
    rw [← BitVec.toNat_inj]
    simp
  refine ⟨fun h0 => ?none, fun h0 hack => ?caught, fun h0 hack => ?sleeps⟩
  case none =>
    rw [hexec, if_pos (hzero.mpr h0)]
    exact congrArg _ (runBody_waited_cmd (v := { u with st := .waitCmd }) rfl false)
  case caught =>
    rw [hexec, if_neg (mt hzero.mp h0), if_pos hack]
    exact congrArg _ (runBody_waited_cmd (v := { caught u with st := .waitCmd }) rfl true)
  case sleeps =>
    rw [hexec, if_neg (mt hzero.mp h0), if_neg (ne_true_of_eq_false hack)]
    rfl

theorem startCode_xbyte {s : State} (h : Configured s.xc) : startCode .xbyte s = .noError := by
  unfold startCode
  rw [if_neg (by simp), if_neg (by simp), if_neg fun hn => hn.2 h]

/-- Settles O38: XB from its first line, in BYTECMD. -/
theorem xbyteStart : Obligations.XbyteStart := by
  intro s hb hconf v u given
  have hexec : exec .xbyte s = .next (match s.xc.txh with
      | some _ => waits u .txReady
      | none => match given.xc.rxf with
        | [] => waits given .rxReady
        | r :: rest => (suspAs s.seq.susp { given with
            xc := { given.xc with rxf := rest } }).runBody (.xbReturn r)) := by
    refine (exec_started hb (startCode_xbyte hconf)).trans (congrArg _ ?_)
    rw [launch_next (c := .xbyte) rfl, runBody_xbBegin]
    change (match s.xc.txh with
      | some _ => waits u .txReady
      | none => (sent (suspAs s.seq.susp u)).runBody .xbReceive) = _
    rw [sent_suspAs, runBody_xbReceive] <;> rfl
  have hrxf : given.xc.rxf = s.xc.rxf := sent_rxf u
  refine ⟨fun htx => ?full, fun htx hrx => ?wait, fun htx r rest hrx => ?reply⟩
  case full =>
    obtain ⟨b, hb⟩ := Option.isSome_iff_exists.mp htx
    rw [hexec, hb] <;> rfl
  case wait => rw [hexec, htx, hrxf, hrx] <;> rfl
  case reply =>
    rw [hexec, htx, hrxf, hrx]
    exact congrArg _ (runBody_reply_byteCmd (v := { given with
      xc := { given.xc with rxf := rest } }) (sent_st u) r)

/-- Settles O39: XP and XNA from their first lines, with the host's operands. -/
theorem hostPacketStarts : Obligations.HostPacketStarts := by
  refine fun s hb => ⟨fun hcode => ?xchg, fun hcode => ?xnoack⟩
  case xchg =>
    refine (exec_started hb hcode).trans (congrArg _ ?_)
    rw [launch_next (c := .xchg) rfl]
    exact runBody_xpStart_self (withArgs (accepted s .xchg) s.saddr .reqbuf s.sreqlen.toNat
      s.smaxresp.toNat)
  case xnoack =>
    refine (exec_started hb hcode).trans (congrArg _ ?_)
    rw [launch_next (c := .xnoack) rfl]
    exact runBody_xnaStart (v := withArgs (accepted s .xnoack) s.saddr .reqbuf s.sreqlen.toNat
      s.smaxresp.toNat) (returns_started rfl rfl) _

/-! ### The packets in PKT (R261, R263, R265) -/

/-- Within the buffer a write of PKT stores at rising offsets. -/
theorem writePkt_eq_putAt (s : State) (k : Nat) (bs : List Byte) (h : k + bs.length ≤ 64) :
    s.writePkt k bs = putAt s (0xC0 + k) bs := by
  induction bs generalizing s k with
  | nil => rfl
  | cons b bs ih =>
    have hlen : k + (bs.length + 1) ≤ 64 := h
    rw [State.writePkt, putAt, pktAt_buffer.at_lt _ (show k < 64 by omega), ih _ _ (by omega)]
    rfl

/-- POLL's packet, the move of the port and the arguments of its exchange. -/
theorem pollEntered_eq (s : State) : pollEntered s =
    withArgs (moved { s with mem := s.buildPollPkt.mem } s.seq.port) s.cfg.addrPad .pkt 4 32 := by
  unfold pollEntered
  rw [State.buildPollPkt, writePkt_eq]
  refine congrArg (withArgs · s.cfg.addrPad .pkt 4 32) ?_
  exact Primitives.driveAttn_eq_moved { s with mem := s.buildPollPkt.mem } s.seq.port

/-- Settles O40: the packet, the move of the port and XP from its first line. -/
theorem pollStart : Obligations.PollStart := by
  intro s hb hcode
  have hbuild : (accepted s .poll).buildPollPkt =
      putAt (accepted s .poll) 0xC0 [s.cfg.cmdPoll, 0x00, 0x00, 0x00] := rfl
  refine ⟨(accepted s .poll).buildPollPkt.mem, ?_, fun a => ?_⟩
  · refine (exec_started hb hcode).trans (congrArg _ ?_)
    rw [launch_next (commandEntry_poll _)]
    rw [pollEntered_eq]
    exact runBody_xpStart_self _
  · calc State.readByte { s with mem := (accepted s .poll).buildPollPkt.mem } a
      _ = (accepted s .poll).buildPollPkt.readByte a :=
        readByte_congr (s := (accepted s .poll).buildPollPkt) rfl
          (writePkt_resets (accepted s .poll) 0 _).symm a
      _ = _ := by rw [hbuild, readByte_putAt_poll] <;> rfl

/-- Settles O41: PROBE's first port. -/
theorem probeStart : Obligations.ProbeStart := by
  intro s hb hcode
  let v : State := { accepted s .probe with
    seq := { (accepted s .probe).seq with presence := 0, loopPort := .port0 } }
  refine ⟨(putAt (moved v .port0) 0xC0
    [s.cfg.cmdProbe, 0x00, 0x00, 0x00, s.cfg.probeReq4]).mem, ?_, fun a => ?_⟩
  · refine (exec_started hb hcode).trans (congrArg _ ?_)
    rw [launch_next (c := .probe) (s := accepted s .probe) (s' := suspAs s.seq.susp v) rfl, runBody_probePort rfl, probing, putAt_eq]
    rfl
  · calc State.readByte { s with mem := _ } a
      _ = (putAt (moved v .port0) 0xC0
          [s.cfg.cmdProbe, 0x00, 0x00, 0x00, s.cfg.probeReq4]).readByte a := readByte_congr rfl rfl a
      _ = _ := by rw [readByte_putAt_probe] <;> rfl

/-! ### BCAST (R265) -/

/-- BCAST's packet for a text of `ls` bytes. -/
def idPacket (s : State) (ls : Nat) : List Byte :=
  [s.cfg.cmdSendId, 0x00, BitVec.ofNat 8 (ls + 1)] ++
    (List.range (ls + 1)).map (fun j => s.readByte (reqbufAt j))

theorem buildIdPkt_eq_mem (s : State) (ls : Nat) :
    s.buildIdPkt ls = { s with mem := (s.buildIdPkt ls).mem } := writePkt_eq s 0 _

theorem buildIdPkt_eq {s : State} {ls : Nat} (h : ls ≤ 60) :
    s.buildIdPkt ls = putAt s 0xC0 (idPacket s ls) :=
  writePkt_eq_putAt s 0 _ (by simp; omega)

/-- The packet read back: the header, the text and its terminator. -/
theorem readByte_buildIdPkt {s : State} {ls : Nat} (h : ls ≤ 60) (a : Nat) :
    (s.buildIdPkt ls).readByte a =
      if a = 0xC0 then s.cfg.cmdSendId
      else if a = 0xC1 then 0x00
      else if a = 0xC2 then BitVec.ofNat 8 (ls + 1)
      else if 0xC3 ≤ a ∧ a ≤ 0xC3 + ls then req s (a - 0xC3)
      else s.readByte a := by
  rw [buildIdPkt_eq h, readByte_putAt]
  obtain hlow | ⟨j, rfl⟩ := Nat.lt_or_ge a 0xC0 |>.imp_right Nat.exists_eq_add_of_le
  · rw [if_neg (by omega), if_neg (by omega), if_neg (by omega), if_neg (by omega), if_neg (by omega)]
  rw [if_pos (by omega), Nat.add_sub_cancel_left]
  obtain rfl | rfl | rfl | ⟨i, rfl⟩ : j = 0 ∨ j = 1 ∨ j = 2 ∨ ∃ i, j = i + 3 := by
    obtain hj | hj := Nat.lt_or_ge j 3
    · omega
    · exact .inr (.inr (.inr ⟨j - 3, by omega⟩))
  · rfl
  · rfl
  · rfl
  rw [if_neg (by omega), if_neg (by omega), if_neg (by omega)]
  have hat : (idPacket s ls)[i + 3]? =
      (List.range (ls + 1))[i]?.map (fun j => s.readByte (reqbufAt j)) := List.getElem?_map ..
  rw [hat]
  by_cases hi : i < ls + 1
  · rw [List.getElem?_range hi, if_pos (by omega), show 0xC0 + (i + 3) - 0xC3 = i by omega,
      ← req_eq_reqbufAt (by omega)]
    rfl
  · rw [List.getElem?_eq_none (by simpa using hi), if_neg (by omega)]
    rfl

/-- The packet's routine arguments, over the packet built. -/
theorem bcastArgs_eq (s : State) (ls : Nat) : bcastArgs s ls =
    withArgs { s with mem := (s.buildIdPkt ls).mem } s.cfg.addrCard .pkt (4 + ls) s.seq.cap := by
  unfold bcastArgs
  rw [State.buildIdPkt, writePkt_eq, show 4 + ls = Config.bcastHdr + (ls + 1) by
    change 4 + ls = 3 + (ls + 1)
    omega]
  rfl

/-- The mask operand bit by bit (R94). -/
theorem accepted_mask_getLsbD (s : State) {k : Nat} (hk : k < 2) :
    (accepted s .bcast).seq.mask.getLsbD k = s.sarg.getLsbD k := by
  change (BitVec.ofNat 2 s.sarg.toNat).getLsbD k = _
  rw [BitVec.ofNat_toNat, BitVec.getLsbD_setWidth]
  simp [hk]

theorem mask_eq_zero_iff (m : BitVec 2) : m = 0 ↔ m.getLsbD 0 = false ∧ m.getLsbD 1 = false := by
  revert m
  decide

/-- An empty BCAST leaves attention as the statements have it (log 17). -/
theorem emptyBcast_eq (s : State) : s.emptyBcast = attnLeft s := by
  unfold State.emptyBcast attnLeft
  cases Config.emptyBcastKeepsAttn s.now with
  | false => rw [Bool.and_false, driveAttn_release]; rfl
  | true =>
    rw [Bool.and_true, Primitives.driveAttn_eq_moved, if_pos rfl]
    simp [moved]

/-- Without port 0 in the mask BCAST goes on to port 1. -/
theorem runBody_bcastPort_again {x : Option Susp} {v : State} (hp : v.seq.loopPort = .port0)
    (hm : v.seq.mask.getLsbD 0 = false) : (suspAs x v).runBody .bcastPort =
      (suspAs x { v with seq := { v.seq with loopPort := .port1 } }).runBody .bcastPort := by
  have hpx : (suspAs x v).seq.loopPort = .port0 := hp
  have hmx : ¬ inMask (suspAs x v).seq.mask .port0 = true := ne_true_of_eq_false hm
  refine runBody_next ?_
  rw [act, hpx, if_neg hmx, State.bcastNext, hpx] <;> rfl

section

variable {s : State} {ls : Nat}

/-- The loop over the ports at port `p`. -/
def onPort (p : Port) (v : State) : State := { v with seq := { v.seq with loopPort := p } }

theorem attnLeft_onPort (p : Port) (v : State) : attnLeft (onPort p v) = onPort p (attnLeft v) := by
  unfold attnLeft
  change (if Config.emptyBcastKeepsAttn v.now then _ else _) = _
  split_ifs <;> rfl

@[simp] theorem attnLeft_seq (v : State) : (attnLeft v).seq = v.seq := by
  unfold attnLeft
  split_ifs <;> rfl

/-- BCAST's routine arguments over its packet, with the loop at port `p`. -/
def bcastAt (s : State) (ls : Nat) (p : Port) : State :=
  onPort p (withArgs { accepted s .bcast with mem := ((accepted s .bcast).buildIdPkt ls).mem }
    s.cfg.addrCard .pkt (4 + ls) s.smaxresp.toNat)

theorem exec_bcast (hb : s.busy = false) (hcode : startCode .bcast s = .noError)
    (htext : s.textLength = some ls) :
    exec .bcast s = .next ((bcastEntered (accepted s .bcast) ls).runBody .bcastPort) := by
  have htext : (accepted s .bcast).textLength = some ls := htext
  exact (exec_started hb hcode).trans (congrArg _ (launch_next (commandEntry_bcast htext)))

theorem bcastEntered_of_mask (hm : (accepted s .bcast).seq.mask ≠ 0) :
    bcastEntered (accepted s .bcast) ls = suspAs s.seq.susp (bcastAt s ls .port0) := by
  have hmask : ¬ (bcastArgs (accepted s .bcast) ls).seq.mask = 0 := by
    rw [bcastArgs_eq]
    exact hm
  rw [bcastEntered, bcastDriven, if_neg hmask, bcastArgs_eq]
  rfl

theorem bcastEntered_of_empty (hm : (accepted s .bcast).seq.mask = 0) :
    bcastEntered (accepted s .bcast) ls = suspAs s.seq.susp (attnLeft (bcastAt s ls .port0)) := by
  have hmask : (bcastArgs (accepted s .bcast) ls).seq.mask = 0 := by
    rw [bcastArgs_eq]
    exact hm
  have hsusp (v : State) {x : Option Susp} (h : v.seq.susp = x) : suspAs x v = v := by
    rw [← h]
    rfl
  rw [hsusp _ (by rw [attnLeft_seq]; rfl), bcastEntered, bcastDriven, if_pos hmask, emptyBcast_eq,
    bcastArgs_eq, bcastAt, attnLeft_onPort]
  rfl

/-- The send on the first port of the mask. -/
theorem runBody_bcastAt_send (p : Port) (hm : inMask (accepted s .bcast).seq.mask p = true) :
    (suspAs s.seq.susp (bcastAt s ls p)).runBody .bcastPort =
      sendBegun packetEnded (moved (bcastAt s ls p) p) :=
  runBody_bcastPort_send (returns_started (s := bcastAt s ls p) rfl rfl) hm

theorem runBody_bcastAt_again (hm : (accepted s .bcast).seq.mask.getLsbD 0 = false) :
    (suspAs s.seq.susp (bcastAt s ls .port0)).runBody .bcastPort =
      (suspAs s.seq.susp (bcastAt s ls .port1)).runBody .bcastPort :=
  runBody_bcastPort_again (v := bcastAt s ls .port0) rfl hm

/-- With an empty mask BCAST passes both ports. -/
theorem runBody_bcast_empty (hm0 : (accepted s .bcast).seq.mask.getLsbD 0 = false)
    (hm1 : (accepted s .bcast).seq.mask.getLsbD 1 = false) :
    (suspAs s.seq.susp (attnLeft (bcastAt s ls .port0))).runBody .bcastPort =
      ended { attnLeft (bcastAt s ls .port1) with sresult := 0, sresplen := 0 } := by
  have hnext : onPort .port1 (attnLeft (bcastAt s ls .port0)) = attnLeft (bcastAt s ls .port1) :=
    (attnLeft_onPort .port1 (bcastAt s ls .port0)).symm
  calc (suspAs s.seq.susp (attnLeft (bcastAt s ls .port0))).runBody .bcastPort
    _ = (suspAs s.seq.susp (onPort .port1 (attnLeft (bcastAt s ls .port0)))).runBody .bcastPort :=
      runBody_bcastPort_again (by rw [attnLeft_seq]; rfl) (by rw [attnLeft_seq]; exact hm0)
    _ = (suspAs s.seq.susp (attnLeft (bcastAt s ls .port1))).runBody .bcastPort := by rw [hnext]
    _ = bcastEnded (attnLeft (bcastAt s ls .port1)) :=
      runBody_bcastPort_end (by rw [attnLeft_seq]; rfl) (by rw [attnLeft_seq]; exact hm1)

end

/-- Settles O42: the packet, and the loop over the ports by the mask. -/
theorem bcastStart : Obligations.BcastStart := by
  intro s ls hb hcode hzero hfirst hls
  have hexec := exec_bcast hb hcode (textLength_eq_some.mpr ⟨by omega, hzero, hfirst⟩)
  have hbit0 := accepted_mask_getLsbD s (k := 0) (by decide)
  have hbit1 := accepted_mask_getLsbD s (k := 1) (by decide)
  refine ⟨((accepted s .bcast).buildIdPkt ls).mem, fun a => ?reads, fun h0 h1 => ?empty,
    fun h0 => ?port0, fun h0 h1 => ?port1⟩
  case reads =>
    have hread := readByte_buildIdPkt (s := accepted s .bcast) hls a
    have hreq : req (accepted s .bcast) (a - 0xC3) = req s (a - 0xC3) := rfl
    have hother : (accepted s .bcast).readByte a = s.readByte a := rfl
    rw [hreq, hother, buildIdPkt_eq_mem] at hread
    exact (readByte_congr rfl rfl a).trans hread
  case empty =>
    rw [hexec, bcastEntered_of_empty ((mask_eq_zero_iff _).mpr ⟨hbit0.trans h0, hbit1.trans h1⟩),
      runBody_bcast_empty (hbit0.trans h0) (hbit1.trans h1)]
    rfl
  case port0 =>
    have hm : (accepted s .bcast).seq.mask ≠ 0 := fun h =>
      absurd ((mask_eq_zero_iff _).mp h).1 (ne_false_of_eq_true (hbit0.trans h0))
    rw [hexec, bcastEntered_of_mask hm, runBody_bcastAt_send .port0 (hbit0.trans h0)]
    rfl
  case port1 =>
    have hm : (accepted s .bcast).seq.mask ≠ 0 := fun h =>
      absurd ((mask_eq_zero_iff _).mp h).2 (ne_false_of_eq_true (hbit1.trans h1))
    rw [hexec, bcastEntered_of_mask hm, runBody_bcastAt_again (hbit0.trans h0),
      runBody_bcastAt_send .port1 (hbit1.trans h1)]
    rfl

/-! ### One step (R24) -/

/-- Settles O4: the branches of the step for a line. -/
theorem stepRunsTheDecodedLine : Obligations.StepRunsTheDecodedLine := by
  intro s bytes rest hhost
  unfold step
  rw [hhost]
  refine ⟨fun i hi => ?_, fun he => ?_, fun he => ?_⟩
  · simp only [hi]
  · simp only [he, refusalOf]
  · simp only [he, refusalOf]

/-- Settles O5: the branches of the step without a line; the devices' input is that of the tick. -/
theorem stepRunsThePhasesInOrder : Obligations.StepRunsThePhasesInOrder := by
  refine fun s hhost => ⟨s.advance.devInput, fun d ds hdev => devInput_cons (s := s.advance) hdev, ?_⟩
  obtain hhost | ⟨rest, hhost⟩ := hhost
  · have hstep : step s = .next s.tick := by
      unfold step
      rw [hhost]
    have htail : { s with host := s.host.tail } = s := by rw [hhost, List.tail_nil, ← hhost]
    calc step s
      _ = .next s.tick := hstep
      _ = .next (State.tick { s with host := s.host.tail }) := by rw [htail]
  · have hstep : step s = .next (State.tick { s with host := rest }) := by
      unfold step
      rw [hhost]
    rw [hstep, hhost]
    rfl

end Sys2Proof.Starts
end

section
/-! PROOFS. The machine's invariant: what holds between two actions of a running body and at which points
of it the body can be, that every action keeps both until the body rests in the invariant, and the same
of the other phases of a tick and of the host's instructions. -/

namespace Sys2Proof.Invariant

open Sys2Proof.Machine Sys2Proof.Claims Sys2Proof.HostWrites Sys2Proof.Bodies Sys2Proof.EveryStep

/-! ### The transceiver between phases (R42, R171 to R173) -/

/-- The fields that the transceiver's consistency reads. -/
theorem xcvrInv_of {s t : State} (h : s.XcvrInv) (hcfg : t.cfg = s.cfg) (hnow : t.now = s.now)
    (hsh : t.xc.sh = s.xc.sh) (htxh : t.xc.txh = s.xc.txh) (hen : t.xc.txen = s.xc.txen)
    (hline : t.xc.lineOk = s.xc.lineOk) (hrxf : t.xc.rxf.length ≤ s.xc.rxf.length) : t.XcvrInv where
  shift_ahead b e he := by
    rw [hnow, hcfg]
    exact h.shift_ahead b e (hsh ▸ he)
  held := by
    rw [htxh, hsh, hen, hline]
    exact h.held
  depth := by
    rw [hcfg]
    exact hrxf.trans h.depth

/-- TryLoad leaves no byte waiting for an idle, enabled shifter. -/
theorem xcvrInv_tryLoad {s : State} (hbyte : 1 ≤ s.cfg.byteUs)
    (hahead : ∀ b t, s.xc.sh = some (b, t) → s.now < t ∧ t ≤ s.now + s.cfg.byteUs)
    (hdepth : s.xc.rxf.length ≤ s.cfg.rxFifoDepth) : s.tryLoad.XcvrInv := by
  obtain ⟨heq, hwhy⟩ | ⟨b, htxh, hsh, hen, heq⟩ := tryLoad_cases s <;> rw [heq]
  · refine ⟨hahead, fun htx => ?_, hdepth⟩
    obtain hno | hbusy | hoff := hwhy
    · simp [hno] at htx
    · exact .inl hbusy
    · exact .inr hoff
  · refine ⟨fun b' t ht => ?_, fun htx => ?_, hdepth⟩
    · obtain ⟨rfl, rfl⟩ : b = b' ∧ s.now + s.cfg.byteUs = t := by simpa using ht
      exact ⟨Nat.lt_add_of_pos_right hbyte, le_rfl⟩
    · cases htx

/-- A byte handed over leaves the transceiver consistent, and shifting where it is configured. -/
theorem xcvrInv_sent {s : State} (hok : s.cfg.Ok) (h : s.XcvrInv) : (sent s).XcvrInv := by
  obtain ⟨-, hbyte, -⟩ := hok
  exact xcvrInv_tryLoad (s := { s with xc := { s.xc with txh := some s.seq.xbByte } }) hbyte
    h.shift_ahead h.depth

theorem sent_shifts {s : State} (hconf : s.xc.configured = true) :
    (sent s).xc.sh.isSome = true := by
  obtain ⟨hline, htxen, -⟩ := (configured_iff s.xc).mp hconf
  unfold sent
  obtain ⟨heq, hno | hbusy | hoff⟩ | ⟨b, -, -, -, heq⟩ :=
    tryLoad_cases { s with xc := { s.xc with txh := some s.seq.xbByte } }
  · cases hno
  · rw [heq]
    exact hbusy
  · change (s.xc.txen && s.xc.lineOk) = false at hoff
    simp [hline, htxen] at hoff
  · rw [heq]
    rfl

/-! ### What every action leaves (R201) -/

/-- What no action of a body changes, whatever follows it. -/
structure Kept (s t : State) : Prop where
  cfg : t.cfg = s.cfg
  now : t.now = s.now
  configured : t.xc.configured = s.xc.configured
  resets : t.resets = s.resets

/-- What no action changes that another one follows. -/
structure KeptOn (s t : State) : Prop where
  cur : t.seq.cur = s.seq.cur
  busy : t.busy = s.busy
  done : t.done = s.done
  err : t.err = s.err
  susp : t.seq.susp = s.seq.susp

theorem sent_configured (s : State) : (sent s).xc.configured = s.xc.configured := tryLoad_configured _

theorem kept_of_did {a : Act} {s s' : State} {next : Option Act} (h : Did s a s' next) : Kept s s' := by
  cases h with
  | xbSend => exact ⟨Routines.sent_cfg s, Routines.sent_now s, sent_configured s, tryLoad_resets _⟩
  | probePort =>
    have hxc : (s.driveAttn s.xc.attn s.seq.loopPort).buildProbePkt.xc =
        (s.driveAttn s.xc.attn s.seq.loopPort).xc := writePkt_xc ..
    exact ⟨writePkt_cfg .., writePkt_now .., (congrArg Xcvr.configured hxc).trans rfl, writePkt_resets ..⟩
  | _ => exact ⟨rfl, rfl, rfl, rfl⟩

theorem sent_flags (s : State) : KeptOn s (sent s) :=
  ⟨congrArg (·.cur) (tryLoad_seq _), tryLoad_busy _, tryLoad_done _, tryLoad_err _,
    congrArg (·.susp) (tryLoad_seq _)⟩

theorem keptOn_of_did {a a' : Act} {s s' : State} (h : Did s a s' (some a')) : KeptOn s s' := by
  cases h with
  | xbSend => exact sent_flags s
  | probePort =>
    refine ⟨?_, writePkt_busy .., writePkt_done .., writePkt_err .., ?_⟩
    · exact congrArg (·.cur) (writePkt_seq ..)
    · exact congrArg (·.susp) (writePkt_seq ..)
  | _ => exact ⟨rfl, rfl, rfl, rfl, rfl⟩

theorem xcvrInv_of_did {a : Act} {s s' : State} {next : Option Act} (hok : s.cfg.Ok)
    (hx : s.XcvrInv) (h : Did s a s' next) : s'.XcvrInv := by
  cases h with
  | xbSend => exact xcvrInv_sent hok hx
  | probePort =>
    have hxc : (s.driveAttn s.xc.attn s.seq.loopPort).buildProbePkt.xc =
        (s.driveAttn s.xc.attn s.seq.loopPort).xc := writePkt_xc ..
    refine xcvrInv_of hx (writePkt_cfg ..) (writePkt_now ..) ?_ ?_ ?_ ?_ ?_
    · exact congrArg (·.sh) hxc
    · exact congrArg (·.txh) hxc
    · exact congrArg (·.txen) hxc
    · exact congrArg (·.lineOk) hxc
    · exact (congrArg (·.rxf.length) hxc).le
  | xbReceive_take r rest h =>
    exact xcvrInv_of hx rfl rfl rfl rfl rfl rfl (by rw [h]; exact Nat.le_succ _)
  | reply_naAddr | waited_addr =>
    exact xcvrInv_of hx rfl rfl rfl rfl rfl rfl (Nat.zero_le _)
  | _ => exact xcvrInv_of hx rfl rfl rfl rfl rfl rfl le_rfl

/-! ### No command running (R205) -/

/-- What holds of a state in which no command runs. -/
structure Idle (s : State) : Prop where
  params : s.cfg.Ok
  memory : s.mem.wf = true
  xcvr : s.XcvrInv
  busy : s.busy = false
  cur : s.seq.cur = none
  st : s.st = .idle
  susp : s.seq.susp = none
  stored : s.seq.n ≤ 64
  budget : -9 ≤ s.seq.rem ∧ s.seq.rem ≤ 65535

theorem Idle.inv {s : State} (h : Idle s) : s.Inv where
  params := h.params
  memory := h.memory
  xcvr := h.xcvr
  seq := by constructor <;> simp [h.busy, h.cur, h.st, h.susp]
  count := by
    refine ⟨?_, ?_, h.stored, ?_, ?_, ?_, h.budget, ?_⟩ <;> simp [h.cur, h.st, SeqState.polls]
  attn := by constructor <;> simp [h.st, SeqState.attends]

theorem idle_of_inv {s : State} (h : s.Inv) (hb : s.busy = false) : Idle s := by
  have hcur : s.seq.cur = none := by
    have hsome := h.seq.busy_cur
    rw [hb] at hsome
    simpa using hsome.symm
  obtain ⟨hst, hsusp⟩ := h.seq.idle hcur
  exact ⟨h.params, h.memory, h.xcvr, hb, hcur, hst, hsusp, h.count.stored, h.count.budget⟩

/-! ### A running body between two actions (R200, R211, R232, R234 to R237) -/

/-- What holds of a state in which the body of `c` runs. -/
structure Running (c : Cmd) (s : State) : Prop where
  params : s.cfg.Ok
  memory : s.mem.wf = true
  xcvr : s.XcvrInv
  cur : s.seq.cur = some c
  busy : s.busy = true
  done : s.done = false
  err : s.err = .noError
  configured : c.bus = true → s.xc.configured = true
  awake : s.seq.susp = none
  request : (c.exchanges || c.sends) = true → s.seq.rl0 ≤ 64
  capacity : c.exchanges = true → s.seq.cap ≤ 64
  stored : s.seq.n ≤ 64
  budget : -9 ≤ s.seq.rem ∧ s.seq.rem ≤ 65535

/-- Of the request's bytes, `k` or all have been taken (R232). -/
def Taken (s : State) (k : Nat) : Prop :=
  s.seq.i = min s.seq.rl0 k ∧ s.seq.i + s.seq.rl = s.seq.rl0

/-- Where the body of `c` is inside a byte exchange. -/
inductive XbSite (c : Cmd) (s : State) : Prop where
  | byteCmd (hc : c = .xbyte) (hst : s.st = .byteCmd)
  | addr (hc : c.exchanges = true) (ha : s.xc.attn = true) (hst : s.st = .addr)
  | xfer (hc : c.exchanges = true) (ha : s.xc.attn = true) (hst : s.st = .xfer)
      (hn : s.seq.n < s.seq.cap) (hi : Taken s (s.seq.n + 1))
  | naByte (hc : c.sends = true) (ha : s.xc.attn = true) (hst : s.st = .naByte)
      (hi : s.seq.i + s.seq.rl = s.seq.rl0)

/-- Where the body of `c` is inside the acknowledge waiter. -/
inductive WaitSite (c : Cmd) (s : State) : Prop where
  | waitCmd (hc : c = .waitack) (hst : s.st = .waitCmd)
  | addrAck (hc : c.exchanges = true) (ha : s.xc.attn = true) (hst : s.st = .addrAck)
  | dataAck (hc : c.exchanges = true) (ha : s.xc.attn = true) (hst : s.st = .dataAck)
      (hn : s.seq.n ≤ s.seq.cap) (hi : Taken s s.seq.n)

/-- The states at which the body of `c` can come to a point. -/
def Site (c : Cmd) (a : Act) (s : State) : Prop :=
  match a with
  | .xpStart | .preDone => c.exchanges = true
  | .settleDone => c.exchanges = true ∧ s.xc.attn = true
  | .xpNextByte =>
    c.exchanges = true ∧ s.xc.attn = true ∧ s.seq.n ≤ s.seq.cap ∧ Taken s s.seq.n
  | .xnaStart => c.sends = true
  | .xnaNextByte => c.sends = true ∧ s.xc.attn = true ∧ s.seq.i + s.seq.rl = s.seq.rl0
  | .trail => (c.exchanges || c.sends) = true ∧ s.xc.attn = true
  | .trailDone | .postDone => (c.exchanges || c.sends) = true
  | .probePort => c = .probe
  | .bcastPort => c = .bcast
  | .xbBegin _ | .xbSend | .xbReturn _ => XbSite c s
  | .xbReceive => XbSite c s ∧ (s.xc.rxf = [] → s.xc.sh.isSome = true)
  | .waitBegin b => WaitSite c s ∧ b ≤ 65535
  | .waitCheck | .waitReturn _ => WaitSite c s
  | .waitSlept => WaitSite c s ∧ 0 < s.seq.rem

/-- The fields that a byte exchange's site reads. -/
theorem XbSite.congr {c : Cmd} {s t : State} (h : XbSite c s) (hst : t.st = s.st)
    (hattn : t.xc.attn = s.xc.attn) (hn : t.seq.n = s.seq.n) (hcap : t.seq.cap = s.seq.cap)
    (hi : t.seq.i = s.seq.i) (hrl : t.seq.rl = s.seq.rl) (hrl0 : t.seq.rl0 = s.seq.rl0) :
    XbSite c t := by
  have htaken (k : Nat) (hk : Taken s k) : Taken t k := by
    unfold Taken
    rw [hi, hrl, hrl0]
    exact hk
  cases h with
  | byteCmd hc h => exact .byteCmd hc (hst.trans h)
  | addr hc ha h => exact .addr hc (hattn.trans ha) (hst.trans h)
  | xfer hc ha h hlt htk =>
    exact .xfer hc (hattn.trans ha) (hst.trans h) (by rw [hn, hcap]; exact hlt)
      (htaken _ (by rw [hn]; exact htk))
  | naByte hc ha h hsum =>
    exact .naByte hc (hattn.trans ha) (hst.trans h) (by rw [hi, hrl, hrl0]; exact hsum)

theorem sent_site {c : Cmd} {s : State} (h : XbSite c s) : XbSite c (sent s) := by
  have hseq : (sent s).seq = s.seq := tryLoad_seq _
  exact h.congr (tryLoad_st _) (tryLoad_attn _) (congrArg (·.n) hseq) (congrArg (·.cap) hseq)
    (congrArg (·.i) hseq) (congrArg (·.rl) hseq) (congrArg (·.rl0) hseq)

theorem bus_of_packet {c : Cmd} (h : (c.exchanges || c.sends) = true) : c.bus = true := by
  revert h
  cases c <;> decide

theorem bus_of_xbSite {c : Cmd} {s : State} (h : XbSite c s) : c.bus = true := by
  cases h with
  | byteCmd hc => rw [hc]; rfl
  | addr hc | xfer hc | naByte hc => exact bus_of_packet (by simp [hc])

/-- In ADDR, XFER and NABYTE the site of a byte exchange is that state's own. -/
theorem XbSite.of_addr {c : Cmd} {s : State} (h : XbSite c s) (hst : s.st = .addr) :
    c.exchanges = true ∧ s.xc.attn = true := by
  cases h with
  | addr hc ha => exact ⟨hc, ha⟩
  | byteCmd _ h | xfer _ _ h | naByte _ _ h => rw [h] at hst; cases hst

theorem XbSite.of_xfer {c : Cmd} {s : State} (h : XbSite c s) (hst : s.st = .xfer) :
    c.exchanges = true ∧ s.xc.attn = true ∧ s.seq.n < s.seq.cap ∧ Taken s (s.seq.n + 1) := by
  cases h with
  | xfer hc ha _ hn hi => exact ⟨hc, ha, hn, hi⟩
  | byteCmd _ h | addr _ _ h | naByte _ _ h => rw [h] at hst; cases hst

theorem XbSite.of_naByte {c : Cmd} {s : State} (h : XbSite c s) (hst : s.st = .naByte) :
    c.sends = true ∧ s.xc.attn = true ∧ s.seq.i + s.seq.rl = s.seq.rl0 := by
  cases h with
  | naByte hc ha _ hi => exact ⟨hc, ha, hi⟩
  | byteCmd _ h | addr _ _ h | xfer _ _ h => rw [h] at hst; cases hst

/-- In ADDRACK and DATAACK the site of the waiter is that state's own. -/
theorem WaitSite.of_addrAck {c : Cmd} {s : State} (h : WaitSite c s) (hst : s.st = .addrAck) :
    c.exchanges = true ∧ s.xc.attn = true := by
  cases h with
  | addrAck hc ha => exact ⟨hc, ha⟩
  | waitCmd _ h | dataAck _ _ h => rw [h] at hst; cases hst

theorem WaitSite.of_dataAck {c : Cmd} {s : State} (h : WaitSite c s) (hst : s.st = .dataAck) :
    c.exchanges = true ∧ s.xc.attn = true ∧ s.seq.n ≤ s.seq.cap ∧ Taken s s.seq.n := by
  cases h with
  | dataAck hc ha _ hn hi => exact ⟨hc, ha, hn, hi⟩
  | waitCmd _ h | addrAck _ _ h => rw [h] at hst; cases hst

/-- The waiter's own steps leave its site. -/
theorem WaitSite.withRem {c : Cmd} {s : State} (h : WaitSite c s) (r : Int) :
    WaitSite c { s with seq := { s.seq with rem := r } } := by
  cases h with
  | waitCmd hc hst => exact .waitCmd hc hst
  | addrAck hc ha hst => exact .addrAck hc ha hst
  | dataAck hc ha hst hn hi => exact .dataAck hc ha hst hn hi

theorem WaitSite.clearLatches {c : Cmd} {s : State} (h : WaitSite c s) :
    WaitSite c s.clearLatches := by
  cases h with
  | waitCmd hc hst => exact .waitCmd hc hst
  | addrAck hc ha hst => exact .addrAck hc ha hst
  | dataAck hc ha hst hn hi => exact .dataAck hc ha hst hn hi

section

variable {c : Cmd} {a a' : Act} {s s' : State}

/-- Every action leads from a site to a site. -/
theorem site_of_did (hr : Running c s) (hs : Site c a s) (h : Did s a s' (some a')) :
    Site c a' s' := by
  have hpacket (hc : c.exchanges = true ∨ c.sends = true) : (c.exchanges || c.sends) = true :=
    Bool.or_eq_true_iff.mpr hc
  have hcur {d : Cmd} (hd : s.seq.cur = some d) : c = d := Option.some.inj (hr.cur.symm.trans hd)
  cases h with
  | xpStart_pass | trailDone_pass | waitCheck_late => exact hs
  | settleDone =>
    obtain ⟨hc, ha⟩ := hs
    exact XbSite.addr hc ha rfl
  | xpNext_request hn hrl =>
    obtain ⟨hc, ha, -, hi, hsum⟩ := hs
    refine XbSite.xfer hc ha rfl hn ⟨?_, ?_⟩
    · change s.seq.i + 1 = min s.seq.rl0 (s.seq.n + 1)
      omega
    · change s.seq.i + 1 + (s.seq.rl - 1) = s.seq.rl0
      omega
  | xpNext_filler hn hrl =>
    obtain ⟨hc, ha, -, hi, hsum⟩ := hs
    refine XbSite.xfer hc ha rfl hn ⟨?_, hsum⟩
    change s.seq.i = min s.seq.rl0 (s.seq.n + 1)
    omega
  | xpNext_full hn =>
    obtain ⟨hc, ha, -⟩ := hs
    exact ⟨hpacket (.inl hc), ha⟩
  | xnaStart => exact XbSite.naByte hs rfl rfl (Nat.zero_add _)
  | xnaNext_request hrl =>
    obtain ⟨hc, ha, hsum⟩ := hs
    refine XbSite.naByte hc ha rfl ?_
    change s.seq.i + 1 + (s.seq.rl - 1) = s.seq.rl0
    omega
  | xnaNext_done hrl =>
    obtain ⟨hc, ha, -⟩ := hs
    exact ⟨hpacket (.inr hc), ha⟩
  | trail_pass =>
    obtain ⟨hc, -⟩ := hs
    exact hc
  | probe_again hc | bcast_again hc => exact hcur hc
  | bcastPort_again => exact hs
  | probePort | bcastPort_send =>
    obtain rfl : c = _ := hs
    rfl
  | xbBegin_give => exact XbSite.congr hs rfl rfl rfl rfl rfl rfl rfl
  | xbSend =>
    have hs : XbSite c s := hs
    exact ⟨sent_site hs, fun _ => sent_shifts (hr.configured (bus_of_xbSite hs))⟩
  | xbReceive_take r rest hrxf =>
    obtain ⟨hs, -⟩ := hs
    exact hs.congr rfl rfl rfl rfl rfl rfl rfl
  | reply_addr r hst =>
    obtain ⟨hc, ha⟩ := XbSite.of_addr hs hst
    exact ⟨.addrAck hc ha rfl, by decide⟩
  | reply_xfer r hst =>
    obtain ⟨hc, ha, hn, hi⟩ := XbSite.of_xfer hs hst
    exact ⟨.dataAck hc ha rfl hn hi, by decide⟩
  | reply_naAddr r hst | reply_naByte_pass r hst =>
    obtain ⟨hc, ha, hsum⟩ := XbSite.of_naByte hs hst
    exact ⟨hc, ha, hsum⟩
  | waitBegin b =>
    obtain ⟨hs, -⟩ := hs
    exact hs.withRem b
  | waitCheck_caught => exact WaitSite.clearLatches hs
  | waitSlept =>
    obtain ⟨hs, -⟩ := hs
    exact hs.withRem _
  | waited_addr hst =>
    obtain ⟨hc, ha⟩ := WaitSite.of_addrAck hs hst
    exact ⟨hc, ha, Nat.zero_le _, (Nat.min_zero _).symm, Nat.zero_add _⟩
  | waited_noAddr hst =>
    obtain ⟨hc, ha⟩ := WaitSite.of_addrAck hs hst
    exact ⟨hpacket (.inl hc), ha⟩
  | waited_data hst => exact WaitSite.of_dataAck hs hst
  | waited_noData hst =>
    obtain ⟨hc, ha, -⟩ := WaitSite.of_dataAck hs hst
    exact ⟨hpacket (.inl hc), ha⟩

/-- The bounds of the packet counters after an action. -/
theorem counts_of_did (hr : Running c s) (hs : Site c a s) {next : Option Act} (h : Did s a s' next) :
    ((c.exchanges || c.sends) = true → s'.seq.rl0 ≤ 64) ∧ (c.exchanges = true → s'.seq.cap ≤ 64) ∧
      s'.seq.n ≤ 64 ∧ (-9 ≤ s'.seq.rem ∧ s'.seq.rem ≤ 65535) := by
  have hkeep := And.intro hr.request (And.intro hr.capacity (And.intro hr.stored hr.budget))
  cases h with
  | xbSend =>
    rw [show (sent s).seq = s.seq from tryLoad_seq _]
    exact hkeep
  | probePort =>
    have hseq : (s.driveAttn s.xc.attn s.seq.loopPort).buildProbePkt.seq = s.seq := writePkt_seq ..
    refine ⟨fun _ => ?_, fun _ => ?_, ?_, ?_⟩
    · change 5 ≤ 64
      decide
    · change 5 ≤ 64
      decide
    · exact (congrArg (·.n) hseq).trans_le hr.stored
    · change -9 ≤ (State.buildProbePkt _).seq.rem ∧ (State.buildProbePkt _).seq.rem ≤ 65535
      rw [hseq]
      exact hr.budget
  | reply_xfer r hst =>
    obtain ⟨hc, -, hn, -⟩ := XbSite.of_xfer hs hst
    exact ⟨hr.request, hr.capacity, hn.trans_le (hr.capacity hc), hr.budget⟩
  | waited_addr | waited_noAddr => exact ⟨hr.request, hr.capacity, Nat.zero_le _, hr.budget⟩
  | waitBegin b =>
    obtain ⟨-, hb⟩ := hs
    refine ⟨hr.request, hr.capacity, hr.stored, ?_⟩
    change -9 ≤ (b : Int) ∧ (b : Int) ≤ 65535
    omega
  | waitSlept =>
    obtain ⟨-, hpos⟩ := hs
    obtain ⟨-, hmax⟩ := hr.budget
    refine ⟨hr.request, hr.capacity, hr.stored, ?_⟩
    change -9 ≤ s.seq.rem - 10 ∧ s.seq.rem - 10 ≤ 65535
    omega
  | _ => exact hkeep

theorem running_of_did (hr : Running c s) (hs : Site c a s) (h : Did s a s' (some a')) :
    Running c s' := by
  have hk := kept_of_did h
  have hon := keptOn_of_did h
  obtain ⟨hreq, hcap, hn, hrem⟩ := counts_of_did hr hs h
  exact {
    params := by rw [hk.cfg]; exact hr.params
    memory := did_mem_wf h hr.memory
    xcvr := xcvrInv_of_did hr.params hr.xcvr h
    cur := hon.cur.trans hr.cur
    busy := hon.busy.trans hr.busy
    done := hon.done.trans hr.done
    err := hon.err.trans hr.err
    configured := fun hb => hk.configured.trans (hr.configured hb)
    awake := hon.susp.trans hr.awake
    request := hreq
    capacity := hcap
    stored := hn
    budget := hrem }

/-! ### Where a body rests -/

/-- A body's end is a state of the invariant. -/
theorem idle_endCommand {u : State} (hok : u.cfg.Ok) (hm : u.mem.wf = true) (hx : u.XcvrInv)
    (hn : u.seq.n ≤ 64) (hrem : -9 ≤ u.seq.rem ∧ u.seq.rem ≤ 65535) : Idle u.endCommand :=
  ⟨hok, hm, xcvrInv_of hx rfl rfl rfl rfl rfl rfl le_rfl, rfl, rfl, rfl, rfl, hn, hrem⟩

/-- The states a body is suspended in, with what the invariant says of each (R211, R232, R237). -/
structure Placed (s : State) : Prop where
  sending : s.st = .xfer → s.seq.n < s.seq.cap ∧ Taken s (s.seq.n + 1)
  waiting : s.st = .dataAck → s.seq.n ≤ s.seq.cap ∧ Taken s s.seq.n
  noAck : s.st = .naByte ∨ s.st = .naIbd → s.seq.i + s.seq.rl = s.seq.rl0
  polling : s.st.polls = true → 0 < s.seq.rem
  asserted : s.st.attends = true → s.xc.attn = true
  released : s.st = .post → s.xc.attn = false

/-- A suspended body is a state of the invariant, where its condition does not hold yet. -/
theorem inv_suspend {w : Susp} (hr : Running c s) (hp : Placed s) (hw : waitsAt c s.st w = true)
    (htick : ∀ t, w = .untilTick t → s.now < t) (htx : w = .txReady → s.xc.txh.isSome = true)
    (hrx : w = .rxReady → s.xc.rxf = [] ∧ s.xc.sh.isSome = true) : (s.suspend w).Inv where
  params := hr.params
  memory := hr.memory
  xcvr := xcvrInv_of hr.xcvr rfl rfl rfl rfl rfl rfl le_rfl
  seq := {
    busy_cur := by
      change s.busy = s.seq.cur.isSome
      rw [hr.busy, hr.cur]
      rfl
    idle := fun h => by
      have hcur := hr.cur.symm.trans h
      cases hcur
    running := fun d hd => by
      obtain rfl : c = d := Option.some.inj (hr.cur.symm.trans hd)
      exact ⟨hr.done, hr.err, hr.configured, w, rfl, hw⟩
    tick_ahead := fun t ht => htick t (Option.some.inj ht)
    tx_wait := fun h => htx (Option.some.inj h)
    rx_wait := fun h => hrx (Option.some.inj h) }
  count := {
    request := fun d hd => by
      obtain rfl : c = d := Option.some.inj (hr.cur.symm.trans hd)
      exact hr.request
    capacity := fun d hd => by
      obtain rfl : c = d := Option.some.inj (hr.cur.symm.trans hd)
      exact hr.capacity
    stored := hr.stored
    sending := hp.sending
    waiting := hp.waiting
    noAck := hp.noAck
    budget := hr.budget
    polling := hp.polling }
  attn := ⟨hp.asserted, hp.released⟩

/-- The commands of a packet routine exchange or send. -/
theorem packetCommand_some (c : Cmd) : packetCommand (some c) = (c.exchanges || c.sends) := by
  cases c <;> rfl

/-- What a suspension may change of a running body's state before it. -/
theorem Running.relocated (hr : Running c s) (q : SeqState) (k attn irq : Bool) (w : List WireEvent)
    (b : Byte) : Running c { s with
      st := q, ack := k, wire := w
      xc := { s.xc with attn := attn, irq := irq }
      seq := { s.seq with xbByte := b } } where
  params := hr.params
  memory := hr.memory
  xcvr := xcvrInv_of hr.xcvr rfl rfl rfl rfl rfl rfl le_rfl
  cur := hr.cur
  busy := hr.busy
  done := hr.done
  err := hr.err
  configured := hr.configured
  awake := hr.awake
  request := hr.request
  capacity := hr.capacity
  stored := hr.stored
  budget := hr.budget

theorem XbSite.placed (h : XbSite c s) : Placed s := by
  cases h with
  | byteCmd _ hst | addr _ ha hst =>
    constructor <;> simp_all [SeqState.polls, SeqState.attends]
  | xfer _ ha hst hn hi =>
    constructor <;> simp_all [SeqState.polls, SeqState.attends]
  | naByte _ ha hst hi =>
    constructor <;> simp_all [SeqState.polls, SeqState.attends]

theorem XbSite.waits (h : XbSite c s) :
    waitsAt c s.st .txReady = true ∧ waitsAt c s.st .rxReady = true := by
  cases h with
  | byteCmd hc hst =>
    rw [hst, hc]
    exact ⟨rfl, rfl⟩
  | addr hc _ hst | xfer hc _ hst | naByte hc _ hst =>
    rw [hst]
    exact ⟨hc, hc⟩

theorem WaitSite.placed (h : WaitSite c s) (hrem : 0 < s.seq.rem) : Placed s := by
  cases h with
  | waitCmd _ hst | addrAck _ ha hst =>
    constructor <;> simp_all [SeqState.polls, SeqState.attends]
  | dataAck _ ha hst hn hi =>
    constructor <;> simp_all [SeqState.polls, SeqState.attends]

theorem WaitSite.waits (h : WaitSite c s) (t : Tick) : waitsAt c s.st (.untilTick t) = true := by
  cases h with
  | waitCmd hc hst =>
    rw [hst, hc]
    rfl
  | addrAck hc _ hst | dataAck hc _ hst =>
    rw [hst]
    exact hc

/-- A delay begins. -/
theorem inv_sleep {d : Nat} (hr : Running c s) (hp : Placed s) (hd : d ≠ 0)
    (hw : ∀ t, waitsAt c s.st (.untilTick t) = true) : (s.suspend (.untilTick (s.now + d))).Inv := by
  refine inv_suspend hr hp (hw _) (fun t ht => ?_) (by rintro ⟨⟩) (by rintro ⟨⟩)
  injection ht with ht
  exact ht ▸ Nat.lt_add_of_pos_right (Nat.pos_of_ne_zero hd)

/-- Where a body rests the invariant holds. -/
theorem inv_of_did (hr : Running c s) (hs : Site c a s) (h : Did s a s' none) : s'.Inv := by
  have hx {t : State} (hcfg : t.cfg = s.cfg) (hnow : t.now = s.now) (hxc : t.xc = s.xc) : t.XcvrInv :=
    xcvrInv_of hr.xcvr hcfg hnow (by rw [hxc]) (by rw [hxc]) (by rw [hxc]) (by rw [hxc]) (by rw [hxc])
  have hreloc := hr.relocated
  cases h with
  | xpStart_wait hd =>
    exact inv_sleep (hreloc .pre s.ack s.xc.attn s.xc.irq s.wire s.seq.xbByte)
      (by constructor <;> simp [SeqState.polls, SeqState.attends]) hd fun _ => hs
  | preDone =>
    exact inv_sleep (s := (s.clearLatches.driveAttn true s.xc.port).enter .settle) (d := 150)
      (hreloc .settle false true false _ s.seq.xbByte)
      (by constructor <;> simp [State.enter, State.driveAttn, SeqState.polls]) (by decide) fun _ => hs
  | trail_wait hd =>
    obtain ⟨hc, ha⟩ := hs
    exact inv_sleep (hreloc .trail s.ack s.xc.attn s.xc.irq s.wire s.seq.xbByte)
      (by constructor <;> simp [ha, SeqState.polls]) hd fun _ => hc
  | trailDone_wait hd =>
    exact inv_sleep (s := (s.driveAttn false s.xc.port).enter .post)
      (hreloc .post s.ack false s.xc.irq _ s.seq.xbByte)
      (by constructor <;> simp [State.enter, State.driveAttn, SeqState.polls, SeqState.attends]) hd
      fun _ => hs
  | xbBegin_wait v htx =>
    have hs : XbSite c { s with seq := { s.seq with xbByte := v } } :=
      XbSite.congr hs rfl rfl rfl rfl rfl rfl rfl
    exact inv_suspend (hreloc s.st s.ack s.xc.attn s.xc.irq s.wire v) hs.placed hs.waits.1
      (by rintro t ⟨⟩) (fun _ => htx) (by rintro ⟨⟩)
  | xbReceive_wait hrx =>
    obtain ⟨hs, hsh⟩ := hs
    exact inv_suspend hr hs.placed hs.waits.2 (by rintro t ⟨⟩) (by rintro ⟨⟩)
      fun _ => ⟨hrx, hsh hrx⟩
  | reply_naByte_wait r hst hi hd =>
    obtain ⟨hc, ha, hsum⟩ := XbSite.of_naByte hs hst
    exact inv_sleep (hreloc .naIbd s.ack s.xc.attn s.xc.irq s.wire s.seq.xbByte)
      (by constructor <;> simp [ha, hsum, SeqState.polls]) hd fun _ => hc
  | waitCheck_again hrem hack =>
    have hs : WaitSite c s := hs
    exact inv_sleep hr (hs.placed hrem) (by decide) hs.waits
  | xchg_end | poll_end | probe_end | xnoack_end | bcast_end | bcastPort_end | reply_byteCmd
  | waited_waitCmd =>
    exact Idle.inv (s := State.endCommand _)
      (idle_endCommand hr.params hr.memory (hx rfl rfl rfl) hr.stored hr.budget)
  | packet_none hc =>
    have hs : (c.exchanges || c.sends) = true := hs
    rw [hr.cur, packetCommand_some, hs] at hc
    cases hc
  | reply_none r hst =>
    have hs : XbSite c s := hs
    cases hs with
    | byteCmd _ h | addr _ _ h | xfer _ _ h | naByte _ _ h =>
      rw [h] at hst
      cases hst
  | waited_none ok hst =>
    have hs : WaitSite c s := hs
    cases hs with
    | waitCmd _ h | addrAck _ _ h | dataAck _ _ h =>
      rw [h] at hst
      cases hst

/-- From a point of a running body to where it rests. -/
theorem inv_runBody (hr : Running c s) (hs : Site c a s) : (s.runBody a).Inv :=
  runBody_induction (P := fun a s => Running c s ∧ Site c a s)
    (fun _ _ _ _ ⟨hr, hs⟩ hd => ⟨running_of_did hr hs hd, site_of_did hr hs hd⟩)
    (fun _ _ _ ⟨hr, hs⟩ hd => inv_of_did hr hs hd) ⟨hr, hs⟩

end

/-! ### The sequencer phase (R24, R201) -/

/-- What holds before the sequencer phase: the invariant, but a suspension's condition may hold. -/
structure Ready (s : State) : Prop where
  params : s.cfg.Ok
  memory : s.mem.wf = true
  xcvr : s.XcvrInv
  busy_cur : s.busy = s.seq.cur.isSome
  idle : s.seq.cur = none → s.st = .idle ∧ s.seq.susp = none
  running : ∀ c, s.seq.cur = some c →
    s.done = false ∧ s.err = .noError ∧ (c.bus = true → s.xc.configured = true)
      ∧ ∃ w, s.seq.susp = some w ∧ waitsAt c s.st w = true
  tick : ∀ t, s.seq.susp = some (.untilTick t) → s.now ≤ t
  rx : s.seq.susp = some .rxReady → s.xc.rxf = [] → s.xc.sh.isSome = true
  count : s.CountInv
  attn : s.AttnInv

/-- Where the body of `c` can be suspended, one case for each point. -/
inductive WaitPoint (c : Cmd) : SeqState → Susp → Prop where
  | pre (hc : c.exchanges = true) (t : Tick) : WaitPoint c .pre (.untilTick t)
  | settle (hc : c.exchanges = true) (t : Tick) : WaitPoint c .settle (.untilTick t)
  | addrGive (hc : c.exchanges = true) : WaitPoint c .addr .txReady
  | addrReply (hc : c.exchanges = true) : WaitPoint c .addr .rxReady
  | addrAck (hc : c.exchanges = true) (t : Tick) : WaitPoint c .addrAck (.untilTick t)
  | xferGive (hc : c.exchanges = true) : WaitPoint c .xfer .txReady
  | xferReply (hc : c.exchanges = true) : WaitPoint c .xfer .rxReady
  | dataAck (hc : c.exchanges = true) (t : Tick) : WaitPoint c .dataAck (.untilTick t)
  | trail (hc : (c.exchanges || c.sends) = true) (t : Tick) : WaitPoint c .trail (.untilTick t)
  | post (hc : (c.exchanges || c.sends) = true) (t : Tick) : WaitPoint c .post (.untilTick t)
  | naGive (hc : c.sends = true) : WaitPoint c .naByte .txReady
  | naReply (hc : c.sends = true) : WaitPoint c .naByte .rxReady
  | naIbd (hc : c.sends = true) (t : Tick) : WaitPoint c .naIbd (.untilTick t)
  | waitCmd (hc : c = .waitack) (t : Tick) : WaitPoint c .waitCmd (.untilTick t)
  | byteGive (hc : c = .xbyte) : WaitPoint c .byteCmd .txReady
  | byteReply (hc : c = .xbyte) : WaitPoint c .byteCmd .rxReady

theorem waitPoint_of_waitsAt {c : Cmd} {st : SeqState} {w : Susp} (h : waitsAt c st w = true) :
    WaitPoint c st w := by
  unfold waitsAt at h
  split at h
  case h_1 => exact .pre h _
  case h_2 => exact .settle h _
  case h_3 => exact .addrAck h _
  case h_4 => exact .dataAck h _
  case h_5 => exact .addrGive h
  case h_6 => exact .addrReply h
  case h_7 => exact .xferGive h
  case h_8 => exact .xferReply h
  case h_9 => exact .naIbd h _
  case h_10 => exact .naGive h
  case h_11 => exact .naReply h
  case h_12 => exact .trail h _
  case h_13 => exact .post h _
  case h_14 => exact .waitCmd (beq_iff_eq.mp h) _
  case h_15 => exact .byteGive (beq_iff_eq.mp h)
  case h_16 => exact .byteReply (beq_iff_eq.mp h)
  case h_17 => cases h

/-- Only bus commands wait for a reply. -/
theorem bus_of_reply {c : Cmd} {st : SeqState} (h : WaitPoint c st .rxReady) : c.bus = true := by
  cases h with
  | addrReply hc | xferReply hc | naReply hc => exact bus_of_packet (by simp [hc])
  | byteReply hc =>
    rw [hc]
    rfl

/-- Every suspension has a point at which the body goes on. -/
theorem resumePoint_of_waitPoint {c : Cmd} {st : SeqState} {w : Susp} (h : WaitPoint c st w) :
    ∃ a, resumePoint st w = some a := by
  cases h <;> exact ⟨_, rfl⟩

section

variable {c : Cmd} {s : State}

/-- The body of `c` runs again from its suspension. -/
theorem Ready.resumed (h : Ready s) (hc : s.seq.cur = some c) :
    Running c { s with seq := { s.seq with susp := none } } := by
  obtain ⟨hdone, herr, hconf, -⟩ := h.running c hc
  have hbusy : s.busy = true := by rw [h.busy_cur, hc]; rfl
  exact {
    params := h.params
    memory := h.memory
    xcvr := xcvrInv_of h.xcvr rfl rfl rfl rfl rfl rfl le_rfl
    cur := hc
    busy := hbusy
    done := hdone
    err := herr
    configured := hconf
    awake := rfl
    request := h.count.request c hc
    capacity := h.count.capacity c hc
    stored := h.count.stored
    budget := h.count.budget }

/-- The point where a suspended body goes on is a site of its command. -/
theorem Ready.site (h : Ready s) {st : SeqState} {w : Susp} {a : Act} (hst : s.st = st)
    (hs : s.seq.susp = some w) (hpoint : WaitPoint c st w) (hr : resumePoint st w = some a) :
    Site c a { s with seq := { s.seq with susp := none } } := by
  have hattn (ha : st.attends = true) : s.xc.attn = true := h.attn.asserted (hst ▸ ha)
  have hrem (hp : st.polls = true) : 0 < s.seq.rem := h.count.polling (hst ▸ hp)
  cases hpoint <;> injection hr with hr <;> subst hr
  case pre hc t => exact hc
  case settle hc t => exact ⟨hc, hattn rfl⟩
  case addrGive hc => exact XbSite.addr hc (hattn rfl) hst
  case addrReply hc => exact ⟨.addr hc (hattn rfl) hst, h.rx hs⟩
  case addrAck hc t => exact ⟨.addrAck hc (hattn rfl) hst, hrem rfl⟩
  case xferGive hc =>
    obtain ⟨hn, hi⟩ := h.count.sending hst
    exact XbSite.xfer hc (hattn rfl) hst hn hi
  case xferReply hc =>
    obtain ⟨hn, hi⟩ := h.count.sending hst
    exact ⟨.xfer hc (hattn rfl) hst hn hi, h.rx hs⟩
  case dataAck hc t =>
    obtain ⟨hn, hi⟩ := h.count.waiting hst
    exact ⟨.dataAck hc (hattn rfl) hst hn hi, hrem rfl⟩
  case trail hc t | post hc t => exact hc
  case naGive hc => exact XbSite.naByte hc (hattn rfl) hst (h.count.noAck (.inl hst))
  case naReply hc => exact ⟨.naByte hc (hattn rfl) hst (h.count.noAck (.inl hst)), h.rx hs⟩
  case naIbd hc t => exact ⟨hc, hattn rfl, h.count.noAck (.inr hst)⟩
  case waitCmd hc t => exact ⟨.waitCmd hc hst, hrem rfl⟩
  case byteGive hc => exact XbSite.byteCmd hc hst
  case byteReply hc => exact ⟨.byteCmd hc hst, h.rx hs⟩

/-- A suspension that holds not yet is one of the invariant. -/
theorem Ready.inv_asleep (h : Ready s) (hw : ∀ w, s.seq.susp = some w → s.suspHolds w = false) :
    s.Inv where
  params := h.params
  memory := h.memory
  xcvr := h.xcvr
  seq := {
    busy_cur := h.busy_cur
    idle := h.idle
    running := h.running
    tick_ahead := fun t ht => by
      have hne : ¬ (t == s.now) = true := ne_true_of_eq_false (hw _ ht)
      exact lt_of_le_of_ne (h.tick t ht) fun heq => hne (beq_iff_eq.mpr heq.symm)
    tx_wait := fun ht => by
      have hno : s.xc.txh.isNone = false := hw _ ht
      simpa using hno
    rx_wait := fun ht => by
      have hno : (!s.xc.rxf.isEmpty) = false := hw _ ht
      have hempty : s.xc.rxf = [] := by simpa using hno
      exact ⟨hempty, h.rx ht hempty⟩ }
  count := h.count
  attn := h.attn

/-- The sequencer phase brings the machine back into its invariant. -/
theorem Ready.inv_sequencerPhase (h : Ready s) : s.sequencerPhase.Inv := by
  obtain ⟨heq, hwhy⟩ | ⟨w, a, hs, -, hr, heq⟩ := sequencerPhase_runs s <;> rw [heq]
  · refine h.inv_asleep fun w hs => ?_
    obtain hno | hnone := hwhy w hs
    · exact hno
    · exfalso
      cases hcur : s.seq.cur with
      | none => rw [(h.idle hcur).2] at hs; cases hs
      | some c =>
        obtain ⟨-, -, -, w', hs', hw⟩ := h.running c hcur
        obtain rfl : w = w' := Option.some.inj (hs.symm.trans hs')
        obtain ⟨a, ha⟩ := resumePoint_of_waitPoint (waitPoint_of_waitsAt hw)
        rw [ha] at hnone
        cases hnone
  · cases hcur : s.seq.cur with
    | none => rw [(h.idle hcur).2] at hs; cases hs
    | some c =>
      obtain ⟨-, -, -, w', hs', hw⟩ := h.running c hcur
      obtain rfl : w = w' := Option.some.inj (hs.symm.trans hs')
      exact inv_runBody (h.resumed hcur) (h.site rfl hs (waitPoint_of_waitsAt hw) hr)

end

/-! ### The phases before the sequencer's (R24, R172, R175) -/

/-- The transceiver phase writes the transceiver and the record alone. -/
theorem transceiverPhase_frame (s : State) (r : Byte) : s.transceiverPhase r =
    { s with xc := (s.transceiverPhase r).xc, wire := (s.transceiverPhase r).wire } := by
  obtain ⟨h, -⟩ | ⟨b, -, h⟩ := transceiverPhase_cases s r <;> rw [h]
  rw [State.complete, tryLoad_frame]
  obtain ⟨-, h⟩ | ⟨-, -, h⟩ | ⟨-, -, h⟩ := receive_cases { s with xc := { s.xc with sh := none } } r <;>
    rw [h]

/-- The acknowledge phase writes both latches and the record alone. -/
theorem ackPhase_frame (s : State) (p : Bool) : s.ackPhase p =
    { s with
      ack := (s.ackPhase p).ack, wire := (s.ackPhase p).wire
      xc := { s.xc with irq := (s.ackPhase p).xc.irq } } := by
  obtain ⟨-, h⟩ | ⟨-, -, h⟩ | ⟨-, -, h⟩ := ackPhase_cases s p <;> rw [h] <;> rfl

section

variable (s : State) (r : Byte)

@[simp] theorem receive_cfg : (s.receive r).cfg = s.cfg := (receive_internal s r).cfg
@[simp] theorem receive_sh : (s.receive r).xc.sh = s.xc.sh := by
  obtain ⟨-, h⟩ | ⟨-, -, h⟩ | ⟨-, -, h⟩ := receive_cases s r <;> rw [h]
@[simp] theorem receive_attn : (s.receive r).xc.attn = s.xc.attn := by
  obtain ⟨-, h⟩ | ⟨-, -, h⟩ | ⟨-, -, h⟩ := receive_cases s r <;> rw [h]
@[simp] theorem receive_configured : (s.receive r).xc.configured = s.xc.configured := by
  obtain ⟨-, h⟩ | ⟨-, -, h⟩ | ⟨-, -, h⟩ := receive_cases s r <;> rw [h] <;> rfl

@[simp] theorem transceiverPhase_attn : (s.transceiverPhase r).xc.attn = s.xc.attn := by
  obtain ⟨h, -⟩ | ⟨b, -, h⟩ := transceiverPhase_cases s r <;> rw [h]
  simp [State.complete]
@[simp] theorem transceiverPhase_configured :
    (s.transceiverPhase r).xc.configured = s.xc.configured := by
  obtain ⟨h, -⟩ | ⟨b, -, h⟩ := transceiverPhase_cases s r <;> rw [h]
  rw [State.complete, tryLoad_configured, receive_configured]
  rfl

/-- The FIFO keeps its depth. -/
theorem receive_depth (h : s.xc.rxf.length ≤ s.cfg.rxFifoDepth) :
    (s.receive r).xc.rxf.length ≤ s.cfg.rxFifoDepth := by
  obtain ⟨-, heq⟩ | ⟨-, hroom, heq⟩ | ⟨-, -, heq⟩ := receive_cases s r <;> rw [heq]
  · exact h
  · simpa using hroom
  · exact h

end

/-- The tick's first phase keeps the transceiver consistent: a shift that stays is still ahead. -/
theorem xcvrInv_transceiverPhase {s : State} (hok : s.cfg.Ok) (h : s.XcvrInv) (r : Byte) :
    (s.advance.dropDev.transceiverPhase r).XcvrInv := by
  obtain ⟨heq, hne⟩ | ⟨b, -, heq⟩ := transceiverPhase_cases s.advance.dropDev r <;> rw [heq]
  · refine ⟨fun b t ht => ?_, h.held, h.depth⟩
    obtain ⟨hlt, hle⟩ := h.shift_ahead b t ht
    have hnow : t ≠ s.now + 1 := fun heq =>
      hne b (by rw [← show t = s.advance.dropDev.now from heq]; exact ht)
    change s.now + 1 < t ∧ t ≤ s.now + 1 + s.cfg.byteUs
    have harith (n t b : Nat) (h1 : n < t) (h2 : t ≤ n + b) (h3 : t ≠ n + 1) :
        n + 1 < t ∧ t ≤ n + 1 + b := by omega
    exact harith _ _ _ hlt hle hnow
  · obtain ⟨-, hbyte, -⟩ := hok
    have hdepth := receive_depth { s.advance.dropDev with xc := { s.xc with sh := none } } r h.depth
    refine xcvrInv_tryLoad ?_ (fun b t ht => ?_) ?_
    · simpa using hbyte
    · simp at ht
    · simpa using hdepth

/-- A completed shift leaves a byte in the FIFO and the holding register empty. -/
theorem complete_configured {s : State} (hok : s.cfg.Ok) (hconf : s.xc.configured = true) (r : Byte) :
    (s.complete r).xc.rxf ≠ [] ∧ (s.complete r).xc.txh = none := by
  obtain ⟨-, -, hrxen⟩ := (configured_iff s.xc).mp hconf
  obtain ⟨-, -, hdepth, -⟩ := hok
  let u := State.receive { s with xc := { s.xc with sh := none } } r
  have hsh : u.xc.sh = none := receive_sh _ r
  have hen : (u.xc.txen && u.xc.lineOk) = true := by
    have hconf : u.xc.configured = true := (receive_configured _ r).trans hconf
    obtain ⟨hline, htxen, -⟩ := (configured_iff u.xc).mp hconf
    rw [htxen, hline]
    rfl
  have hrxf : u.xc.rxf ≠ [] := by
    obtain ⟨hno, -⟩ | ⟨-, -, h⟩ | ⟨-, hfull, h⟩ :=
      receive_cases { s with xc := { s.xc with sh := none } } r
    · rw [show s.xc.rxen = false from hno] at hrxen
      cases hrxen
    · change (State.receive { s with xc := { s.xc with sh := none } } r).xc.rxf ≠ []
      rw [h]
      exact List.append_ne_nil_of_right_ne_nil _ (List.cons_ne_nil _ _)
    · change (State.receive { s with xc := { s.xc with sh := none } } r).xc.rxf ≠ []
      rw [h]
      exact List.ne_nil_of_length_pos (hdepth.trans hfull)
  refine ⟨by rw [State.complete, tryLoad_rxf]; exact hrxf, ?_⟩
  change u.tryLoad.xc.txh = none
  obtain ⟨heq, hwhy⟩ | ⟨b, -, -, -, heq⟩ := tryLoad_cases u <;> rw [heq]
  obtain hno | hbusy | hoff := hwhy
  · exact hno
  · rw [hsh] at hbusy
    cases hbusy
  · rw [hen] at hoff
    cases hoff

/-- A shift that a waiting byte exchange needs goes on, or its byte has come. -/
theorem reply_transceiverPhase {s : State} (hok : s.cfg.Ok) (hconf : s.xc.configured = true)
    (hsh : s.xc.sh.isSome = true) (r : Byte)
    (hstill : (s.transceiverPhase r).xc.rxf = []) : (s.transceiverPhase r).xc.sh.isSome = true := by
  obtain ⟨heq, -⟩ | ⟨b, -, heq⟩ := transceiverPhase_cases s r
  · rw [heq]
    exact hsh
  · obtain ⟨hbyte, -⟩ := complete_configured hok hconf r
    rw [heq] at hstill
    exact absurd hstill hbyte

/-! ### The sequencer's part of the invariant through those phases -/

theorem countInv_of {s t : State} (h : s.CountInv) (hst : t.st = s.st) (hseq : t.seq = s.seq) :
    t.CountInv := by
  constructor <;> simp only [hst, hseq]
  · exact h.request
  · exact h.capacity
  · exact h.stored
  · exact h.sending
  · exact h.waiting
  · exact h.noAck
  · exact h.budget
  · exact h.polling

theorem attnInv_of {s t : State} (h : s.AttnInv) (hst : t.st = s.st)
    (hattn : t.xc.attn = s.xc.attn) : t.AttnInv := by
  constructor <;> rw [hst, hattn]
  · exact h.asserted
  · exact h.released

/-- After the transceiver phase the sequencer may go on. -/
theorem ready_transceiverPhase {s : State} (h : s.Inv) (r : Byte) :
    Ready (s.advance.dropDev.transceiverPhase r) := by
  have hf := transceiverPhase_frame s.advance.dropDev r
  have hst : (s.advance.dropDev.transceiverPhase r).st = s.st := congrArg (·.st) hf
  have hseq : (s.advance.dropDev.transceiverPhase r).seq = s.seq := congrArg (·.seq) hf
  have hnow : (s.advance.dropDev.transceiverPhase r).now = s.now + 1 := congrArg (·.now) hf
  have hconf := transceiverPhase_configured s.advance.dropDev r
  refine {
    params := by rw [show (s.advance.dropDev.transceiverPhase r).cfg = s.cfg from congrArg (·.cfg) hf]
                 exact h.params
    memory := by rw [transceiverPhase_mem]; exact h.memory
    xcvr := xcvrInv_transceiverPhase h.params h.xcvr r
    busy_cur := by rw [hseq]; exact (congrArg (·.busy) hf).trans h.seq.busy_cur
    idle := by rw [hseq, hst]; exact h.seq.idle
    running := fun c hc => ?_
    tick := fun t ht => by
      rw [hseq] at ht
      rw [hnow]
      exact h.seq.tick_ahead t ht
    rx := fun hw hstill => ?_
    count := countInv_of h.count hst hseq
    attn := attnInv_of h.attn hst (transceiverPhase_attn ..) }
  · rw [hseq] at hc
    rw [hst, hseq, hconf]
    obtain ⟨hdone, herr, hrest⟩ := h.seq.running c hc
    exact ⟨(congrArg (·.done) hf).trans hdone, (congrArg (·.err) hf).trans herr, hrest⟩
  · rw [hseq] at hw
    obtain ⟨-, hsh⟩ := h.seq.rx_wait hw
    cases hcur : s.seq.cur with
    | none =>
      rw [(h.seq.idle hcur).2] at hw
      cases hw
    | some c =>
      obtain ⟨-, -, hbus, w, hw', hwait⟩ := h.seq.running c hcur
      obtain rfl : Susp.rxReady = w := Option.some.inj (hw.symm.trans hw')
      have hconfigured := hbus (bus_of_reply (waitPoint_of_waitsAt hwait))
      exact reply_transceiverPhase (s := s.advance.dropDev) h.params hconfigured hsh r hstill

/-- The acknowledge phase writes nothing that the sequencer waits for but the latch. -/
theorem Ready.ackPhase {s : State} (h : Ready s) (p : Bool) : Ready (s.ackPhase p) := by
  rw [ackPhase_frame]
  exact {
    params := h.params
    memory := h.memory
    xcvr := xcvrInv_of h.xcvr rfl rfl rfl rfl rfl rfl le_rfl
    busy_cur := h.busy_cur
    idle := h.idle
    running := h.running
    tick := h.tick
    rx := h.rx
    count := countInv_of h.count rfl rfl
    attn := attnInv_of h.attn rfl rfl }

/-- A tick keeps the invariant. -/
theorem inv_tick {s : State} (h : s.Inv) : s.tick.Inv :=
  ((ready_transceiverPhase h _).ackPhase _).inv_sequencerPhase

/-! ### The host's instructions (R120 to R158) -/

/-- An empty shifter and holding register are consistent. -/
theorem xcvrInv_of_empty {s : State} (hsh : s.xc.sh = none) (htxh : s.xc.txh = none)
    (hrxf : s.xc.rxf.length ≤ s.cfg.rxFifoDepth) : s.XcvrInv :=
  ⟨fun b t h => by simp [hsh] at h, fun h => by simp [htxh] at h, hrxf⟩

/-- A state that differs from an idle one in the transceiver, the buffers and the host's registers. -/
theorem Idle.changed {s t : State} (h : Idle s) (hcfg : t.cfg = s.cfg) (hm : t.mem.wf = true)
    (hx : t.XcvrInv) (hbusy : t.busy = s.busy) (hseq : t.seq = s.seq) (hst : t.st = s.st) : t.Inv :=
  Idle.inv ⟨hcfg ▸ h.params, hm, hx, hbusy.trans h.busy, hseq ▸ h.cur, hst.trans h.st, hseq ▸ h.susp,
    hseq ▸ h.stored, hseq ▸ h.budget⟩

/-- A load tried on other transceiver fields. -/
theorem Idle.tryLoad {s : State} (h : Idle s) (x : Xcvr) (w : List WireEvent) (hsh : x.sh = s.xc.sh)
    (hrxf : x.rxf = s.xc.rxf) : (State.tryLoad { s with xc := x, wire := w }).Inv := by
  obtain ⟨-, hbyte, -⟩ := h.params
  refine h.changed (tryLoad_cfg _) ?_ ?_ (tryLoad_busy _) (tryLoad_seq _) (tryLoad_st _)
  · rw [tryLoad_mem]
    exact h.memory
  · refine xcvrInv_tryLoad hbyte ?_ ?_
    · change ∀ b t, x.sh = some (b, t) → _
      rw [hsh]
      exact h.xcvr.shift_ahead
    · change x.rxf.length ≤ _
      rw [hrxf]
      exact h.xcvr.depth

theorem Idle.inv_writeCtrl {s : State} (h : Idle s) (v : Half) : (s.writeCtrl v).Inv := by
  cases h6 : v.getLsbD 6 with
  | true =>
    rw [writeCtrl_of_reset s h6]
    exact h.changed rfl h.memory (xcvrInv_of_empty rfl rfl (Nat.zero_le _)) rfl rfl rfl
  | false =>
    rw [writeCtrl_of_not_reset s h6]
    exact h.tryLoad _ _ rfl rfl

theorem Idle.inv_bufferWrite {s : State} (h : Idle s) {bufAt : Nat → Nat}
    (hat : ∀ k, 0x40 ≤ bufAt k ∧ bufAt k < 0x100) (d : WData) (k : BitVec 6) :
    (s.bufferWrite bufAt d k).Inv := by
  have hm := bufferWrite_wf h.memory hat d k
  rw [bufferWrite_frame] at hm ⊢
  exact h.changed rfl hm (xcvrInv_of h.xcvr rfl rfl rfl rfl rfl rfl le_rfl) rfl rfl rfl

/-- The error bits and the value read are no part of the invariant. -/
theorem inv_flags {s : State} (h : s.Inv) (w a : Bool) (x : Half) :
    State.Inv { s with werr := w, aerr := a, rdata := x } where
  params := h.params
  memory := h.memory
  xcvr := xcvrInv_of h.xcvr rfl rfl rfl rfl rfl rfl le_rfl
  seq := ⟨h.seq.busy_cur, h.seq.idle, h.seq.running, h.seq.tick_ahead, h.seq.tx_wait, h.seq.rx_wait⟩
  count := countInv_of h.count rfl rfl
  attn := attnInv_of h.attn rfl rfl

/-- The host's coming lines are no part of the invariant. -/
theorem inv_host {s : State} (h : s.Inv) (rest : List HostEvent) :
    State.Inv { s with host := rest } where
  params := h.params
  memory := h.memory
  xcvr := xcvrInv_of h.xcvr rfl rfl rfl rfl rfl rfl le_rfl
  seq := ⟨h.seq.busy_cur, h.seq.idle, h.seq.running, h.seq.tick_ahead, h.seq.tx_wait, h.seq.rx_wait⟩
  count := countInv_of h.count rfl rfl
  attn := attnInv_of h.attn rfl rfl

/-! ### The START of a command (R200) -/

/-- What an accepted START has checked (R200, R301). -/
structure Accepts (c : Cmd) (s : State) : Prop where
  exchange : c = .xchg → s.sreqlen.toNat ≤ 64 ∧ s.smaxresp.toNat ≤ 64
  send : c = .xnoack → s.sreqlen.toNat ≤ 64
  text : c = .bcast → IdOk s
  configured : c.bus = true → s.xc.configured = true

theorem accepts_of_startCode {c : Cmd} {s : State} (h : startCode c s = .noError) : Accepts c s := by
  unfold startCode at h
  split_ifs at h with hrange hid hready
  constructor
  · rintro rfl
    simp at hrange
    omega
  · rintro rfl
    simpa using hrange
  · rintro rfl
    simpa [IdOk] using hid
  · intro hbus
    rw [configured_iff, lineOk_iff]
    simpa [hbus, and_assoc] using hready

/-- What the START of `c` and its first actions leave of the idle state `s`. -/
structure Entered (c : Cmd) (s t : State) : Prop where
  cfg : t.cfg = s.cfg
  memory : t.mem.wf = true
  xcvr : t.XcvrInv
  configured : t.xc.configured = s.xc.configured
  cur : t.seq.cur = some c
  flags : t.busy = true ∧ t.done = false ∧ t.err = .noError
  susp : t.seq.susp = s.seq.susp
  n : t.seq.n = s.seq.n
  rem : t.seq.rem = s.seq.rem

section

variable {c : Cmd} {s t : State}

/-- Once the routine's arguments are in their bounds the body runs. -/
theorem Entered.running (h : Entered c s t) (hs : Idle s) (ha : Accepts c s)
    (hreq : (c.exchanges || c.sends) = true → t.seq.rl0 ≤ 64)
    (hcap : c.exchanges = true → t.seq.cap ≤ 64) : Running c t := by
  obtain ⟨hbusy, hdone, herr⟩ := h.flags
  exact {
    params := h.cfg ▸ hs.params
    memory := h.memory
    xcvr := h.xcvr
    cur := h.cur
    busy := hbusy
    done := hdone
    err := herr
    configured := fun hb => h.configured.trans (ha.configured hb)
    awake := h.susp.trans hs.susp
    request := hreq
    capacity := hcap
    stored := h.n ▸ hs.stored
    budget := h.rem ▸ hs.budget }

/-- The acceptance, with the buffers, STATE, attention and the routine's arguments as they may be. -/
theorem Idle.entered (h : Idle s) (v : Byte) {m : Memory} (hm : m.wf = true) (q : SeqState)
    (attn : Bool) (p : Port) (w : List WireEvent) (f : Sequencer → Sequencer)
    (hf : ∀ x, (f x).cur = x.cur ∧ (f x).susp = x.susp ∧ (f x).n = x.n ∧ (f x).rem = x.rem) :
    Entered c s { State.accept { s with scmd := v } c with
      mem := m, st := q, wire := w
      xc := { s.xc with attn := attn, port := p }
      seq := f (State.accept { s with scmd := v } c).seq } := by
  obtain ⟨hcur, hsusp, hn, hrem⟩ := hf (State.accept { s with scmd := v } c).seq
  exact ⟨rfl, hm, xcvrInv_of h.xcvr rfl rfl rfl rfl rfl rfl le_rfl, rfl, hcur, ⟨rfl, rfl, rfl⟩,
    hsusp, hn, hrem⟩

/-- An action that leaves the counters. -/
theorem Entered.did {a a' : Act} {t' : State} (h : Entered c s t) (hs : Idle s)
    (hd : Did t a t' (some a')) (hn : t'.seq.n = t.seq.n) (hrem : t'.seq.rem = t.seq.rem) :
    Entered c s t' := by
  obtain ⟨hbusy, hdone, herr⟩ := h.flags
  have hk := kept_of_did hd
  have hon := keptOn_of_did hd
  exact ⟨hk.cfg.trans h.cfg, did_mem_wf hd h.memory,
    xcvrInv_of_did (h.cfg ▸ hs.params) h.xcvr hd, hk.configured.trans h.configured,
    hon.cur.trans h.cur, ⟨hon.busy.trans hbusy, hon.done.trans hdone, hon.err.trans herr⟩,
    hon.susp.trans h.susp, hn.trans h.n, hrem.trans h.rem⟩

/-- The text's length, where the identifier check passes. -/
theorem textLength_of_idOk {s : State} (h : IdOk s) : ∃ ls ≤ 60, s.textLength = some ls := by
  obtain ⟨k, hk, hzero⟩ := h
  obtain ⟨ls, hls, htext⟩ := Starts.textLength_le (show k < 64 by omega) hzero
  exact ⟨ls, by omega, htext⟩

/-- The state in which PROBE's first exchange begins. -/
theorem Idle.probe_entered (h : Idle s) (v : Byte) :
    ∃ u, (State.accept { s with scmd := v } .probe).launch .probe = u.runBody .xpStart ∧
      Entered .probe s u ∧ u.seq.rl0 = 5 ∧ u.seq.cap = 5 ∧ u.seq.loopPort = .port0 := by
  let t : State := { State.accept { s with scmd := v } .probe with
    seq := { (State.accept { s with scmd := v } .probe).seq with presence := 0, loopPort := .port0 } }
  have ht : Entered .probe s t := h.entered v h.memory s.st s.xc.attn s.xc.port s.wire
    (fun x => { x with presence := 0, loopPort := .port0 }) fun _ => ⟨rfl, rfl, rfl, rfl⟩
  have hseq : (t.driveAttn t.xc.attn t.seq.loopPort).buildProbePkt.seq = t.seq := writePkt_seq ..
  refine ⟨_, (Starts.launch_next (c := .probe) (s' := t) rfl).trans (runBody_next rfl),
    ht.did h .probePort (congrArg (·.n) hseq) (congrArg (·.rem) hseq), rfl, rfl, ?_⟩
  exact congrArg (·.loopPort) hseq

/-- The state in which POLL's exchange begins. -/
theorem Idle.poll_entered (h : Idle s) (v : Byte) :
    Entered .poll s (pollEntered (State.accept { s with scmd := v } .poll)) ∧
      (pollEntered (State.accept { s with scmd := v } .poll)).seq.rl0 = 4 ∧
      (pollEntered (State.accept { s with scmd := v } .poll)).seq.cap = 32 := by
  have hm : (State.accept { s with scmd := v } .poll).buildPollPkt.mem.wf = true :=
    writePkt_wf (s := State.accept { s with scmd := v } .poll) h.memory _ _
  rw [Starts.pollEntered_eq]
  exact ⟨h.entered v hm s.st s.xc.attn _ _
    (fun x => { x with addr := s.cfg.addrPad, src := .pkt, rl0 := 4, cap := 32 })
    fun _ => ⟨rfl, rfl, rfl, rfl⟩, rfl, rfl⟩

/-- The state in which BCAST's body begins. -/
theorem Idle.bcast_entered (h : Idle s) (v : Byte) (ls : Nat) :
    Entered .bcast s (bcastEntered (State.accept { s with scmd := v } .bcast) ls) ∧
      (bcastEntered (State.accept { s with scmd := v } .bcast) ls).seq.rl0 = 4 + ls ∧
      (bcastEntered (State.accept { s with scmd := v } .bcast) ls).seq.loopPort = .port0 := by
  have hm : ((State.accept { s with scmd := v } .bcast).buildIdPkt ls).mem.wf = true :=
    writePkt_wf (s := State.accept { s with scmd := v } .bcast) h.memory _ _
  have hent (attn : Bool) (w : List WireEvent) := h.entered (c := .bcast) v hm s.st attn s.xc.port w
    (fun x => { x with
      addr := s.cfg.addrCard, src := .pkt, rl0 := 4 + ls, cap := s.smaxresp.toNat, loopPort := .port0 })
    fun _ => ⟨rfl, rfl, rfl, rfl⟩
  unfold bcastEntered
  obtain heq | heq := bcastDriven_cases (bcastArgs (State.accept { s with scmd := v } .bcast) ls) <;>
    rw [heq, Starts.bcastArgs_eq]
  · exact ⟨hent s.xc.attn s.wire, rfl, rfl⟩
  · exact ⟨hent _ _, rfl, rfl⟩

/-- The point at which the body of `c` begins, with what the START has made of its arguments. -/
inductive Begun (s u : State) : Cmd → Act → Prop where
  | waitack (hst : u.st = .waitCmd) : Begun s u .waitack (.waitBegin s.stimeout.toNat)
  | xbyte (b : Byte) (hst : u.st = .byteCmd) : Begun s u .xbyte (.xbBegin b)
  | xchg (hcap : u.seq.cap = s.smaxresp.toNat) : Begun s u .xchg .xpStart
  | xnoack (hrl0 : u.seq.rl0 = s.sreqlen.toNat) : Begun s u .xnoack .xnaStart
  | poll (hcap : u.seq.cap = 32) : Begun s u .poll .xpStart
  | probe (hcap : u.seq.cap = 5) (hport : u.seq.loopPort = .port0) : Begun s u .probe .xpStart
  | bcast (hrl0 : u.seq.rl0 ≤ 64) (hport : u.seq.loopPort = .port0) : Begun s u .bcast .bcastPort

/-- A START ends its command, or runs the command's body. -/
inductive Launched (c : Cmd) (s t : State) : Prop where
  | ended (h : Idle t)
  | body (a : Act) (u : State) (heq : t = u.runBody a) (hr : Running c u) (hs : Site c a u)
      (hcfg : u.cfg = s.cfg) (hb : Begun s u c a)

theorem Idle.launched (h : Idle s) (ha : Accepts c s) (v : Byte) :
    Launched c s ((State.accept { s with scmd := v } c).launch c) := by
  have hent (q : SeqState) := h.entered (c := c) v h.memory q s.xc.attn s.xc.port s.wire id
    fun _ => ⟨rfl, rfl, rfl, rfl⟩
  cases c with
  | init =>
    exact .ended (idle_endCommand (u := (State.accept { s with scmd := v } .init).initXcvr)
      h.params h.memory (xcvrInv_of_empty rfl rfl (Nat.zero_le _)) h.stored h.budget)
  | select =>
    exact .ended (idle_endCommand h.params h.memory
      (xcvrInv_of h.xcvr rfl rfl rfl rfl rfl rfl le_rfl) h.stored h.budget)
  | waitack =>
    have hrun := (hent .waitCmd).running h ha (by rintro ⟨⟩) (by rintro ⟨⟩)
    exact .body _ _ (Starts.launch_next (c := .waitack) rfl) hrun
      ⟨.waitCmd rfl rfl, Nat.le_of_lt_succ s.stimeout.isLt⟩ rfl (.waitack rfl)
  | xbyte =>
    have hrun := (hent .byteCmd).running h ha (by rintro ⟨⟩) (by rintro ⟨⟩)
    exact .body _ _ (Starts.launch_next (c := .xbyte) rfl) hrun (XbSite.byteCmd rfl rfl) rfl
      (.xbyte _ rfl)
  | xchg =>
    obtain ⟨hreq, hcap⟩ := ha.exchange rfl
    have hrun := (h.entered (c := .xchg) v h.memory s.st s.xc.attn s.xc.port s.wire
      (fun x => { x with src := .reqbuf }) fun _ => ⟨rfl, rfl, rfl, rfl⟩).running h ha
      (fun _ => hreq) (fun _ => hcap)
    exact .body _ _ (Starts.launch_next (c := .xchg) rfl) hrun rfl rfl (.xchg rfl)
  | xnoack =>
    have hreq := ha.send rfl
    have hrun := (h.entered (c := .xnoack) v h.memory s.st s.xc.attn s.xc.port s.wire
      (fun x => { x with src := .reqbuf }) fun _ => ⟨rfl, rfl, rfl, rfl⟩).running h ha
      (fun _ => hreq) (by rintro ⟨⟩)
    exact .body _ _ (Starts.launch_next (c := .xnoack) rfl) hrun rfl rfl (.xnoack rfl)
  | poll =>
    obtain ⟨hu, hrl0, hcap⟩ := h.poll_entered v
    have hrun := hu.running h ha (fun _ => by rw [hrl0]; decide) (fun _ => by rw [hcap]; decide)
    exact .body _ _ (Starts.launch_next (commandEntry_poll _)) hrun rfl hu.cfg (.poll hcap)
  | probe =>
    obtain ⟨u, heq, hu, hrl0, hcap, hport⟩ := h.probe_entered v
    have hrun := hu.running h ha (fun _ => by rw [hrl0]; decide) (fun _ => by rw [hcap]; decide)
    exact .body _ u heq hrun rfl hu.cfg (.probe hcap hport)
  | bcast =>
    obtain ⟨ls, hls, htext⟩ := textLength_of_idOk (ha.text rfl)
    have htext : (State.accept { s with scmd := v } .bcast).textLength = some ls := htext
    obtain ⟨hu, hrl0, hport⟩ := h.bcast_entered v ls
    have hlen : 4 + ls ≤ 64 := by omega
    have hrun := hu.running h ha (fun _ => hrl0.trans_le hlen) (by rintro ⟨⟩)
    exact .body _ _ (Starts.launch_next (commandEntry_bcast htext)) hrun rfl hu.cfg
      (.bcast (hrl0.trans_le hlen) hport)

/-- A START leads into the invariant. -/
theorem Launched.inv {t : State} (h : Launched c s t) : t.Inv := by
  cases h with
  | ended h => exact h.inv
  | body a u heq hr hs hcfg hb => exact heq ▸ inv_runBody hr hs

end

/-! ### The obligations -/

/-- What an instruction makes of the invariant. -/
theorem inv_hostMove {s t : State} {i : Instr} (h : s.Inv) (hm : HostMove s i t) : t.Inv := by
  cases hm with
  | flags w a x => exact inv_flags h w a x
  | registers idle =>
    exact (idle_of_inv h idle).changed rfl h.memory
      (xcvrInv_of h.xcvr rfl rfl rfl rfl rfl rfl le_rfl) rfl rfl rfl
  | buffer idle bufAt hat d k => exact (idle_of_inv h idle).inv_bufferWrite hat d k
  | popped idle b rest hrxf x =>
    exact (idle_of_inv h idle).changed rfl h.memory
      (xcvrInv_of h.xcvr rfl rfl rfl rfl rfl rfl (by rw [hrxf]; exact Nat.le_succ _)) rfl rfl rfl
  | line idle m c b => exact (idle_of_inv h idle).tryLoad _ s.wire rfl rfl
  | given idle b htxh => exact (idle_of_inv h idle).tryLoad _ s.wire rfl rfl
  | control idle hi v => exact (idle_of_inv h idle).inv_writeCtrl v
  | rejected idle v e =>
    exact (idle_of_inv h idle).changed rfl h.memory
      (xcvrInv_of h.xcvr rfl rfl rfl rfl rfl rfl le_rfl) rfl rfl rfl
  | started idle v c hi hok =>
    exact ((idle_of_inv h idle).launched
      (accepts_of_startCode ((Starts.operandError_scmd c s v).symm.trans hok)) v).inv

/-- Settles O7: a step is a tick or an instruction, after the host's list. -/
theorem everyStepKeepsTheInvariant : Obligations.EveryStepKeepsTheInvariant := by
  intro s t h hstep
  obtain ⟨rest, rfl | ⟨i, hm⟩⟩ := step_next_cases hstep
  · exact inv_tick (inv_host h rest)
  · exact inv_hostMove (inv_host h rest) hm

/-- Settles O6: nothing runs at power-on, and the legal parameters meet their constraints. -/
theorem invariantHoldsAtReset : Obligations.InvariantHoldsAtReset :=
  Idle.inv ⟨legal_ok _, reset_mem_wf, xcvrInv_of_empty rfl rfl (Nat.zero_le _), rfl, rfl, rfl, rfl,
    Nat.zero_le _, by decide⟩

/-- Settles O13: the same after a block reset, with the parameters kept. -/
theorem blockResetRestoresTheInvariant : Obligations.BlockResetRestoresTheInvariant := fun s hok =>
  ⟨Idle.inv ⟨hok, reset_mem_wf, xcvrInv_of_empty rfl rfl (Nat.zero_le _), rfl, rfl, rfl, rfl,
    Nat.zero_le _, show (-9 : Int) ≤ 0 ∧ (0 : Int) ≤ 65535 by decide⟩, rfl⟩

end Sys2Proof.Invariant
end

section
/-! PROOFS. What a tick stores: that the commands without an exchange store nothing, and that an exchange
stores the FIFO's bytes at the positions it counts. -/

namespace Sys2Proof.Stores

open Sys2Proof.Machine Sys2Proof.Claims Sys2Proof.HostWrites Sys2Proof.Bodies Sys2Proof.EveryStep
  Sys2Proof.Invariant

/-! ### Commands that store nothing (R208, R209, R235) -/

/-- Outside an exchange no action stores. -/
theorem mem_of_did {c : Cmd} {a : Act} {s s' : State} {next : Option Act} (hs : Site c a s)
    (hc : c.exchanges = false) (h : Did s a s' next) : s'.mem = s.mem := by
  obtain heq | ⟨r, rfl, hst, -⟩ | ⟨rfl, -⟩ := did_mem_cases h
  · exact heq
  · obtain ⟨hex, -⟩ := XbSite.of_xfer hs hst
    rw [hc] at hex
    cases hex
  · obtain rfl : c = .probe := hs
    cases hc

theorem runBody_mem {c : Cmd} {a : Act} {s : State} (hr : Running c s) (hs : Site c a s)
    (hc : c.exchanges = false) : (s.runBody a).mem = s.mem :=
  runBody_induction (P := fun a u => (Running c u ∧ Site c a u) ∧ u.mem = s.mem)
    (Q := fun u => u.mem = s.mem)
    (fun _ _ _ _ ⟨⟨hr, hs⟩, hm⟩ hd =>
      ⟨⟨running_of_did hr hs hd, site_of_did hr hs hd⟩, (mem_of_did hs hc hd).trans hm⟩)
    (fun _ _ _ ⟨⟨_, hs⟩, hm⟩ hd => (mem_of_did hs hc hd).trans hm) ⟨⟨hr, hs⟩, rfl⟩

/-! ### The sequencer phase of a running command -/

/-- The phase of a running command is nothing, or its body from a site. -/
theorem ready_runs {s : State} {c : Cmd} (h : Ready s) (hc : s.seq.cur = some c) :
    s.sequencerPhase = s ∨ ∃ w a, resumePoint s.st w = some a ∧
      Running c { s with seq := { s.seq with susp := none } } ∧
      Site c a { s with seq := { s.seq with susp := none } } ∧
      s.sequencerPhase = State.runBody { s with seq := { s.seq with susp := none } } a := by
  obtain ⟨heq, -⟩ | ⟨w, a, hs, -, hr, heq⟩ := sequencerPhase_runs s
  · exact .inl heq
  · obtain ⟨-, -, -, w', hs', hw⟩ := h.running c hc
    obtain rfl : w = w' := Option.some.inj (hs.symm.trans hs')
    exact .inr ⟨w, a, hr, h.resumed hc, h.site rfl hs (waitPoint_of_waitsAt hw) hr, heq⟩

/-- With no command running the sequencer phase does nothing. -/
theorem sequencerPhase_idle {s : State} (h : s.seq.susp = none) : s.sequencerPhase = s := by
  unfold State.sequencerPhase
  rw [h]

/-! ### What an exchange has stored since the tick's sequencer phase began (R230, R232, R263)

`u` is the state in which that phase began. -/

/-- PROBE's request over the buffers (R263). -/
def requestOver (u : State) (a : Nat) : Byte :=
  if a = 0xC0 then u.cfg.cmdProbe else if 0xC1 ≤ a ∧ a ≤ 0xC3 then 0x00
  else if a = 0xC4 then u.cfg.probeReq4 else u.readByte a

/-- The FIFO's bytes stand at the positions counted since `u`, and `v` at every other offset. -/
structure Filled (u : State) (v : Nat → Byte) (s : State) : Prop where
  stored : ∀ k, u.seq.n ≤ k → k < s.seq.n → u.xc.rxf[k - u.seq.n]? = some (s.readByte (0x80 + k))
  others : ∀ a, (∀ k, u.seq.n ≤ k → k < s.seq.n → a ≠ 0x80 + k) → s.readByte a = v a

/-- The bytes that are still to be stored: none, or what is left of the FIFO. -/
def Feed (u : State) (n : Nat) (bytes : List Byte) : Prop :=
  bytes = [] ∨ (u.seq.n ≤ n ∧ bytes = u.xc.rxf.drop (n - u.seq.n))

/-- The bytes from which the points of a byte exchange store. -/
def pendingBytes (a : Act) (s : State) : List Byte :=
  match a with
  | .xbReturn r => r :: s.xc.rxf
  | _ => s.xc.rxf

/-- Until the address is acknowledged nothing has been stored since `u`; in the loop the FIFO feeds it. -/
def Supplied (u : State) (a : Act) (s : State) : Prop :=
  match a with
  | .settleDone => s.seq.n = u.seq.n
  | .xpNextByte => Feed u s.seq.n s.xc.rxf
  | .xbBegin _ | .xbSend | .xbReceive | .xbReturn _ | .waitBegin _ | .waitCheck | .waitSlept
  | .waitReturn _ =>
    (s.st = .addr ∨ s.st = .addrAck → s.seq.n = u.seq.n) ∧
      (s.st = .xfer ∨ s.st = .dataAck → Feed u s.seq.n (pendingBytes a s))
  | _ => True

section

variable {u s s' : State} {c : Cmd} {a a' : Act} {v : Nat → Byte}

theorem Filled.congr (h : Filled u v s) (hm : s'.mem = s.mem) (hr : s'.resets = s.resets)
    (hn : s'.seq.n = s.seq.n) : Filled u v s' := by
  constructor
  · intro k hle hlt
    rw [readByte_congr hm hr]
    exact h.stored k hle (hn ▸ hlt)
  · intro a ha
    rw [readByte_congr hm hr]
    exact h.others a fun k hle hlt => ha k hle (hn.symm ▸ hlt)

/-- A byte of the FIFO stored at the next position. -/
theorem Filled.store (h : Filled u v s) {r : Byte} {rest : List Byte} (hn : s.seq.n < 64)
    (hfeed : Feed u s.seq.n (r :: rest)) (hm : s'.mem = store s.mem (respbufAt s.seq.n) r)
    (hr : s'.resets = s.resets) (hn' : s'.seq.n = s.seq.n + 1) : Filled u v s' := by
  obtain hnil | ⟨hle, hdrop⟩ := hfeed
  · cases hnil
  have hat : respbufAt s.seq.n = 0x80 + s.seq.n := respbufAt_buffer.at_lt _ hn
  have hread (a : Nat) : s'.readByte a = if a = 0x80 + s.seq.n then r else s.readByte a := by
    rw [← readByte_writeByte, ← hat]
    exact readByte_congr (s := s.writeByte (respbufAt s.seq.n) r) hm hr a
  have hr : u.xc.rxf[s.seq.n - u.seq.n]? = some r := by
    have hhead := congrArg List.head? hdrop
    rwa [List.head?_drop, List.head?_cons, eq_comm] at hhead
  constructor
  · intro k hlek hltk
    rw [hread]
    by_cases hk : k = s.seq.n
    · rw [hk, if_pos rfl, hr]
    · rw [if_neg (by omega)]
      exact h.stored k hlek (by omega)
  · intro a ha
    rw [hread, if_neg (ha s.seq.n hle (by omega))]
    exact h.others a fun k hlek hltk => ha k hlek (by omega)

/-- The next position's supply after a byte. -/
theorem Feed.tail {n : Nat} {r : Byte} {rest : List Byte} (h : Feed u n (r :: rest)) :
    Feed u (n + 1) rest := by
  obtain hnil | ⟨hle, hdrop⟩ := h
  · cases hnil
  · refine .inr ⟨by omega, ?_⟩
    rw [show n + 1 - u.seq.n = n - u.seq.n + 1 by omega, ← List.tail_drop, ← hdrop, List.tail_cons]

/-- Every action of an exchange keeps the supply. -/
theorem supplied_of_did (hs : Supplied u a s) (h : Did s a s' (some a')) : Supplied u a' s' := by
  cases h with
  | settleDone =>
    have hs : s.seq.n = u.seq.n := hs
    exact ⟨fun _ => hs, by rintro (⟨⟨⟩⟩ | ⟨⟨⟩⟩)⟩
  | xpNext_request | xpNext_filler => exact ⟨by rintro (⟨⟨⟩⟩ | ⟨⟨⟩⟩), fun _ => hs⟩
  | xnaStart | xnaNext_request => exact ⟨by rintro (⟨⟨⟩⟩ | ⟨⟨⟩⟩), by rintro (⟨⟨⟩⟩ | ⟨⟨⟩⟩)⟩
  | xbSend =>
    obtain ⟨haddr, hdata⟩ := hs
    refine ⟨fun hst => ?_, fun hst => ?_⟩ <;> rw [Routines.sent_st] at hst
    · rw [Routines.sent_seq]
      exact haddr hst
    · change Feed u (sent s).seq.n (sent s).xc.rxf
      rw [Routines.sent_seq, Routines.sent_rxf]
      exact hdata hst
  | xbReceive_take r rest hrxf =>
    obtain ⟨haddr, hdata⟩ := hs
    refine ⟨haddr, fun hst => ?_⟩
    have hfeed : Feed u s.seq.n s.xc.rxf := hdata hst
    rwa [hrxf] at hfeed
  | reply_addr r hst =>
    obtain ⟨haddr, -⟩ := hs
    exact ⟨fun _ => haddr (.inl hst), by rintro (⟨⟨⟩⟩ | ⟨⟨⟩⟩)⟩
  | reply_xfer r hst =>
    obtain ⟨-, hdata⟩ := hs
    exact ⟨by rintro (⟨⟨⟩⟩ | ⟨⟨⟩⟩), fun _ => Feed.tail (hdata (.inl hst))⟩
  | waited_addr hst => exact .inl rfl
  | waited_data hst =>
    obtain ⟨-, hdata⟩ := hs
    exact hdata (.inr hst)
  | xbBegin_give | waitBegin | waitCheck_late | waitCheck_caught | waitSlept => exact hs
  | _ => trivial

/-- The buffers of a running exchange: on the loop's port as the FIFO fills them, and, once PROBE has gone
on to port 1, over its request. -/
inductive Progress (u : State) (c : Cmd) : Act → State → Prop where
  | filling {a : Act} {s : State} (hp : s.seq.loopPort = u.seq.loopPort)
      (hf : Filled u u.readByte s) (ha : a ≠ .probePort) : Progress u c a s
  | moving {s : State} (hc : c = .probe) (hp : s.seq.loopPort ≠ u.seq.loopPort)
      (hf : Filled u u.readByte s) : Progress u c .probePort s
  | moved {a : Act} {s : State} (hc : c = .probe) (hp : s.seq.loopPort ≠ u.seq.loopPort)
      (hf : Filled u (requestOver u) s) (ha : a = .xpStart ∨ a = .preDone) : Progress u c a s

/-- What an exchange has stored when its body rests. -/
def Stored (u : State) (c : Cmd) (s : State) : Prop :=
  (s.seq.loopPort = u.seq.loopPort ∧ Filled u u.readByte s) ∨
    (c = .probe ∧ s.seq.loopPort ≠ u.seq.loopPort ∧ Filled u (requestOver u) s)

/-- The request built over the buffers that the exchange has filled. The positions counted lie below
PKT. -/
theorem Filled.request (h : Filled u u.readByte s) (hn : s.seq.n ≤ 64) (hcfg : s.cfg = u.cfg)
    (hd : Did s .probePort s' (some a')) : Filled u (requestOver u) s' := by
  have hn' : s'.seq.n = s.seq.n := by
    cases hd with
    | probePort => exact congrArg (·.n) (writePkt_seq ..)
  have hread (a : Nat) : s'.readByte a = if a = 0xC0 then u.cfg.cmdProbe
      else if 0xC1 ≤ a ∧ a ≤ 0xC3 then 0x00 else if a = 0xC4 then u.cfg.probeReq4
      else s.readByte a := by
    rw [← hcfg]
    cases hd with
    | probePort =>
      exact Wakes.readByte_putAt_probe (s.driveAttn s.xc.attn s.seq.loopPort) s.cfg.cmdProbe
        s.cfg.probeReq4 a
  constructor
  · intro k hle hlt
    rw [hn'] at hlt
    rw [hread, if_neg (by omega), if_neg (by omega), if_neg (by omega)]
    exact h.stored k hle hlt
  · intro a ha
    rw [hn'] at ha
    rw [hread, requestOver, h.others a ha]

/-- The address acknowledged or not, the count starts anew; nothing was stored before. -/
theorem Filled.restart (h : Filled u v s) (hn : s.seq.n = u.seq.n) (hm : s'.mem = s.mem)
    (hr : s'.resets = s.resets) (hn' : s'.seq.n = 0) : Filled u v s' := by
  constructor
  · intro k _ hlt
    omega
  · intro a _
    rw [readByte_congr hm hr]
    exact h.others a fun k hle hlt => absurd hlt (by omega)

theorem progress_of_did (hr : Running c s) (hs : Site c a s) (hex : c.exchanges = true)
    (hcfg : s.cfg = u.cfg) (hsup : Supplied u a s) (hp : Progress u c a s)
    (h : Did s a s' (some a')) : Progress u c a' s' := by
  have hcur {d : Cmd} (hd : s.seq.cur = some d) : c = d := Option.some.inj (hr.cur.symm.trans hd)
  cases hp with
  | moved hc hne hf ha =>
    obtain rfl | rfl := ha
    · cases h with
      | xpStart_pass => exact .moved hc hne (hf.congr rfl rfl rfl) (.inr rfl)
    · cases h
  | moving hc hne hf =>
    have hf := hf.request hr.stored hcfg h
    cases h with
    | probePort =>
      have hport : (s.driveAttn s.xc.attn s.seq.loopPort).buildProbePkt.seq.loopPort =
          s.seq.loopPort := congrArg (·.loopPort) (writePkt_seq ..)
      exact .moved hc (fun heq => hne (hport.symm.trans heq)) hf (.inl rfl)
  | filling hsame hf ha =>
    cases h with
    | reply_xfer r hst =>
      obtain ⟨hc, -, hn, -⟩ := XbSite.of_xfer hs hst
      obtain ⟨-, hfeed⟩ := hsup
      exact .filling hsame (hf.store (hn.trans_le (hr.capacity hc)) (hfeed (.inl hst)) rfl rfl rfl)
        (by rintro ⟨⟩)
    | waited_addr hst | waited_noAddr hst =>
      obtain ⟨hn, -⟩ := hsup
      exact .filling hsame (hf.restart (hn (.inr hst)) rfl rfl rfl) (by rintro ⟨⟩)
    | probe_again hc hport =>
      have hne : Port.port1 ≠ u.seq.loopPort := by
        rw [← hsame, hport]
        decide
      exact .moving (hcur hc) hne (hf.congr rfl rfl rfl)
    | bcast_again hc =>
      rw [hcur hc] at hex
      cases hex
    | bcastPort_again =>
      obtain rfl : c = .bcast := hs
      cases hex
    | probePort => exact absurd rfl ha
    | xbSend =>
      exact .filling ((congrArg (·.loopPort) (Routines.sent_seq s)).trans hsame)
        (hf.congr (Routines.sent_mem s) (tryLoad_resets _) (congrArg (·.n) (Routines.sent_seq s)))
        (by rintro ⟨⟩)
    | _ => exact .filling hsame (hf.congr rfl rfl rfl) (by rintro ⟨⟩)

theorem stored_of_did (hp : Progress u c a s) (h : Did s a s' none) : Stored u c s' := by
  cases hp with
  | moved hc hne hf ha =>
    obtain rfl | rfl := ha
    · cases h with
      | xpStart_wait => exact .inr ⟨hc, hne, hf.congr rfl rfl rfl⟩
    · cases h with
      | preDone => exact .inr ⟨hc, hne, hf.congr rfl rfl rfl⟩
  | moving => cases h
  | filling hsame hf =>
    cases h with
    | _ => exact .inl ⟨hsame, hf.congr rfl rfl rfl⟩

/-- Before its first action a body has stored nothing. -/
theorem filled_self (u : State) : Filled u u.readByte u :=
  ⟨fun _ hle hlt => absurd hlt (Nat.not_lt.mpr hle), fun _ _ => rfl⟩

theorem feed_self (u : State) : Feed u u.seq.n u.xc.rxf :=
  .inr ⟨le_rfl, by rw [Nat.sub_self, List.drop_zero]⟩

/-- At a suspension's point the FIFO is the supply. -/
theorem supplied_of_resumePoint {st : SeqState} {w : Susp} (h : resumePoint st w = some a) :
    Supplied u a u := by
  unfold resumePoint at h
  split at h <;> cases h
  case h_2 => exact rfl
  case h_1 | h_6 | h_7 | h_8 => trivial
  case h_3 | h_4 | h_5 | h_10 | h_11 => exact ⟨fun _ => rfl, fun _ => feed_self u⟩

/-- What an exchange's body stores from its suspension's point to its rest. -/
theorem stored_runBody {w : Susp} {st : SeqState} (hr : Running c u) (hs : Site c a u)
    (hex : c.exchanges = true) (hres : resumePoint st w = some a) : Stored u c (u.runBody a) := by
  obtain ⟨hport, -⟩ := resumePoint_not_port hres
  refine runBody_induction
    (P := fun a s => (Running c s ∧ Site c a s) ∧ s.cfg = u.cfg ∧ Supplied u a s ∧ Progress u c a s)
    (Q := Stored u c) ?next ?stop
    ⟨⟨hr, hs⟩, rfl, supplied_of_resumePoint hres, .filling rfl (filled_self u) hport⟩
  case next =>
    rintro a s a' s' ⟨⟨hr, hs⟩, hcfg, hsup, hp⟩ hd
    exact ⟨⟨running_of_did hr hs hd, site_of_did hr hs hd⟩, (kept_of_did hd).cfg.trans hcfg,
      supplied_of_did hsup hd, progress_of_did hr hs hex hcfg hsup hp hd⟩
  case stop =>
    rintro a s s' ⟨-, -, -, hp⟩ hd
    exact stored_of_did hp hd

end

/-! ### The obligations -/

/-- The state before a tick's sequencer phase. -/
def awaiting (s : State) : State :=
  (s.advance.dropDev.transceiverPhase s.advance.devInput.rx).ackPhase s.advance.devInput.ack

theorem awaiting_seq (s : State) : (awaiting s).seq = s.seq := by
  rw [awaiting, ackPhase_seq, transceiverPhase_seq]
  rfl

theorem awaiting_mem (s : State) : (awaiting s).mem = s.mem := by
  rw [awaiting, ackPhase_mem, transceiverPhase_mem]
  rfl

theorem ready_awaiting {s : State} (h : s.Inv) : Ready (awaiting s) :=
  (ready_transceiverPhase h _).ackPhase _

/-- The state from which a tick's body runs. -/
def awoken (s : State) : State := { awaiting s with seq := { (awaiting s).seq with susp := none } }

/-- A tick of an exchange stores from the state its body runs from. -/
theorem stored_tick {s : State} {c : Cmd} (h : s.Inv) (hc : s.seq.cur = some c)
    (hex : c.exchanges = true) : Stored (awoken s) c s.tick := by
  have hc : (awaiting s).seq.cur = some c := (congrArg (·.cur) (awaiting_seq s)).trans hc
  obtain heq | ⟨w, a, hres, hr, hs, heq⟩ := ready_runs (ready_awaiting h) hc
  · rw [tick_eq]
    change Stored (awoken s) c (awaiting s).sequencerPhase
    rw [heq]
    exact .inl ⟨rfl, (filled_self (awoken s)).congr rfl rfl rfl⟩
  · rw [tick_eq]
    change Stored (awoken s) c (awaiting s).sequencerPhase
    rw [heq]
    exact stored_runBody hr hs hex hres

/-- A tick without an exchange stores nothing. -/
theorem tick_mem {s : State} (h : s.Inv) (hc : ∀ c, s.seq.cur = some c → c.exchanges = false) :
    s.tick.mem = s.mem := by
  have hmem := awaiting_mem s
  rw [tick_eq]
  change (awaiting s).sequencerPhase.mem = s.mem
  cases hcur : (awaiting s).seq.cur with
  | none =>
    obtain ⟨-, hsusp⟩ := (ready_awaiting h).idle hcur
    rw [sequencerPhase_idle hsusp, hmem]
  | some c =>
    obtain heq | ⟨w, a, hres, hr, hs, heq⟩ := ready_runs (ready_awaiting h) hcur <;> rw [heq]
    · exact hmem
    · rw [runBody_mem hr hs (hc c (by rw [← awaiting_seq s]; exact hcur))]
      exact hmem

/-- The fields of the state a body runs from, in those of the tick's start. -/
theorem awoken_n (s : State) : (awoken s).seq.n = s.seq.n := congrArg (·.n) (awaiting_seq s)
theorem awoken_loopPort (s : State) : (awoken s).seq.loopPort = s.seq.loopPort :=
  congrArg (·.loopPort) (awaiting_seq s)

theorem awoken_readByte (s : State) (a : Nat) : (awoken s).readByte a = s.readByte a := by
  have hresets : (awaiting s).resets = s.resets := by
    rw [awaiting, ackPhase_frame]
    exact (transceiverPhase_internal _ _).resets
  exact readByte_congr (awaiting_mem s) hresets a
theorem awoken_cfg (s : State) : (awoken s).cfg = s.cfg := by
  change (awaiting s).cfg = s.cfg
  rw [awaiting, ackPhase_frame]
  exact (transceiverPhase_internal _ _).cfg
theorem awoken_rxf (s : State) : (awoken s).xc.rxf =
    (s.advance.dropDev.transceiverPhase s.advance.devInput.rx).xc.rxf := by
  change (awaiting s).xc.rxf = _
  rw [awaiting, ackPhase_frame]

/-- Settles O54: the bytes off the counted positions, and the commands without an exchange. -/
theorem ticksOfXchgAndPollStoreAtCountedPositions :
    Obligations.TicksOfXchgAndPollStoreAtCountedPositions := by
  refine fun s h => ⟨fun hc a ha => ?exchanges, fun hc => tick_mem h fun c hcur => ?others⟩
  case exchanges =>
    obtain ⟨c, hcur, hex, hne⟩ : ∃ c, s.seq.cur = some c ∧ c.exchanges = true ∧ c ≠ .probe := by
      obtain hc | hc := hc
      · exact ⟨_, hc, rfl, by decide⟩
      · exact ⟨_, hc, rfl, by decide⟩
    obtain ⟨-, hf⟩ | ⟨hprobe, -⟩ := stored_tick h hcur hex
    · rw [hf.others a (by rw [awoken_n]; exact ha), awoken_readByte]
    · exact absurd hprobe hne
  case others =>
    rw [hcur] at hc
    obtain hc | hc | hc | hc | hc := hc <;> cases hc <;> rfl

/-- Settles O55: the counted positions from the FIFO, and PROBE's request once it is on port 1. -/
theorem ticksOfAnExchangeStoreTheReceivedBytes :
    Obligations.TicksOfAnExchangeStoreTheReceivedBytes := by
  intro s h hc fifo
  obtain ⟨c, hcur, hex⟩ : ∃ c, s.seq.cur = some c ∧ c.exchanges = true := by
    obtain hc | hc | hc := hc <;> exact ⟨_, hc, rfl⟩
  have hfifo : (awoken s).xc.rxf = fifo := awoken_rxf s
  have hstored := stored_tick h hcur hex
  refine ⟨fun k hle hlt => ?bytes, fun _ a ha => ?others⟩
  case bytes =>
    have hf : ∃ v, Filled (awoken s) v s.tick := by
      obtain ⟨-, hf⟩ | ⟨-, -, hf⟩ := hstored <;> exact ⟨_, hf⟩
    obtain ⟨v, hf⟩ := hf
    have hbyte := hf.stored k (by rw [awoken_n]; exact hle) hlt
    rwa [hfifo, awoken_n] at hbyte
  case others =>
    obtain ⟨hport, hf⟩ | ⟨-, hport, hf⟩ := hstored <;> rw [awoken_loopPort] at hport <;>
      rw [hf.others a (by rw [awoken_n]; exact ha)]
    · rw [if_pos hport, awoken_readByte]
    · rw [if_neg hport, requestOver, awoken_cfg, awoken_readByte]

end Sys2Proof.Stores
end

section
/-! PROOFS. The passage of time: ticks in which the sequencer sleeps, what they make of the latches, the
line and the wire record, and the durations of WAITACK, of an exchange with an absent device and of a
send. -/

namespace Sys2Proof.Time

open Sys2Proof.Machine Sys2Proof.Claims Sys2Proof.HostWrites Sys2Proof.Bodies Sys2Proof.Routines
  Sys2Proof.Wakes Sys2Proof.EveryStep Sys2Proof.Invariant Sys2Proof.Stores

/-! ### Ticks -/

theorem ticks_succ (k : Nat) (s : State) : ticks (k + 1) s = (ticks k s).tick :=
  Function.iterate_succ_apply' ..

theorem ticks_add (a b : Nat) (s : State) : ticks (a + b) s = ticks b (ticks a s) := by
  unfold ticks
  rw [Nat.add_comm, Function.iterate_add_apply]

/-- BUSY is 1 throughout `k` ticks, their last one left out. -/
def BusyFor (k : Nat) (s : State) : Prop := ∀ j < k, (ticks j s).busy = true

theorem busyFor_zero (s : State) : BusyFor 0 s := fun _ h => absurd h (Nat.not_lt_zero _)

theorem BusyFor.add {a b : Nat} {s : State} (ha : BusyFor a s) (hb : BusyFor b (ticks a s)) :
    BusyFor (a + b) s := by
  intro j hj
  obtain h | h := Nat.lt_or_ge j a
  · exact ha j h
  · obtain ⟨i, rfl⟩ := Nat.exists_eq_add_of_le h
    rw [ticks_add]
    exact hb i (by omega)

/-! ### A tick without its sequencer phase -/

/-- `k` ticks in which the sequencer does nothing. -/
def drift (k : Nat) (s : State) : State := awaiting^[k] s

theorem drift_succ (k : Nat) (s : State) : drift (k + 1) s = awaiting (drift k s) :=
  Function.iterate_succ_apply' ..

theorem tick_eq_awaiting (s : State) : s.tick = (awaiting s).sequencerPhase := rfl

/-- The phases before the sequencer's advance the counter, use up the devices' input, and write the
transceiver, the latch and the record. -/
theorem awaiting_frame (s : State) : awaiting s = { s with
    now := s.now + 1
    dev := s.dev.tail
    ack := (awaiting s).ack
    wire := (awaiting s).wire
    xc := (awaiting s).xc } := by
  rw [awaiting, ackPhase_frame, transceiverPhase_frame]
  rfl

theorem drift_frame (k : Nat) (s : State) : drift k s = { s with
    now := s.now + k
    dev := s.dev.drop k
    ack := (drift k s).ack
    wire := (drift k s).wire
    xc := (drift k s).xc } := by
  induction k with
  | zero => rfl
  | succ k ih =>
    rw [drift_succ, awaiting_frame]
    have hdev : (drift k s).dev.tail = s.dev.drop (k + 1) := by
      rw [ih, List.tail_drop]
    have hnow : (drift k s).now + 1 = s.now + (k + 1) := by
      rw [ih]
      rfl
    rw [hdev, hnow, ih]

section

variable (k : Nat) (s : State)

@[simp] theorem drift_now : (drift k s).now = s.now + k := congrArg (·.now) (drift_frame k s)
@[simp] theorem drift_dev : (drift k s).dev = s.dev.drop k := congrArg (·.dev) (drift_frame k s)
@[simp] theorem drift_cfg : (drift k s).cfg = s.cfg := congrArg (·.cfg) (drift_frame k s)
@[simp] theorem drift_seq : (drift k s).seq = s.seq := congrArg (·.seq) (drift_frame k s)
@[simp] theorem drift_st : (drift k s).st = s.st := congrArg (·.st) (drift_frame k s)
@[simp] theorem drift_mem : (drift k s).mem = s.mem := congrArg (·.mem) (drift_frame k s)
@[simp] theorem drift_busy : (drift k s).busy = s.busy := congrArg (·.busy) (drift_frame k s)

end

/-- While the sequencer phase does nothing, a tick is no more than that. -/
theorem ticks_eq_drift {k : Nat} {s : State}
    (h : ∀ j, j < k → (drift (j + 1) s).sequencerPhase = drift (j + 1) s) : ticks k s = drift k s := by
  induction k with
  | zero => rfl
  | succ k ih =>
    rw [ticks_succ, ih fun j hj => h j (by omega), tick_eq_awaiting, ← drift_succ, h k (by omega)]

/-- The last tick of a wait runs the sequencer phase. -/
theorem ticks_wake {k : Nat} {s : State}
    (h : ∀ j, j < k → (drift (j + 1) s).sequencerPhase = drift (j + 1) s) :
    ticks (k + 1) s = (drift (k + 1) s).sequencerPhase := by
  rw [ticks_succ, ticks_eq_drift h, tick_eq_awaiting, ← drift_succ]

theorem busyFor_drift {k : Nat} {s : State} (hb : s.busy = true)
    (h : ∀ j, j < k → (drift (j + 1) s).sequencerPhase = drift (j + 1) s) : BusyFor (k + 1) s := by
  intro j hj
  rw [ticks_eq_drift fun i hi => h i (by omega), drift_busy]
  exact hb

/-- A delay of `d` ticks: nothing happens until its last one. -/
theorem ticks_delay {d : Nat} {s : State} (hs : s.seq.susp = some (.untilTick (s.now + d)))
    (hd : d ≠ 0) : ticks d s = (drift d s).sequencerPhase ∧ (s.busy = true → BusyFor d s) := by
  obtain ⟨k, rfl⟩ := Nat.exists_eq_succ_of_ne_zero hd
  have hsleep (j : Nat) (hj : j < k) : (drift (j + 1) s).sequencerPhase = drift (j + 1) s := by
    refine sequencerPhase_sleeps (t := s.now + (k + 1)) (by rw [drift_seq]; exact hs) ?_
    rw [drift_now]
    exact fun heq => absurd (Nat.add_left_cancel heq) (by omega)
  exact ⟨ticks_wake hsleep, fun hb => busyFor_drift hb hsleep⟩

/-! ### The latches (R175) -/

/-- The transceiver phase leaves both latches and their enable. -/
theorem transceiverPhase_latches (s : State) (r : Byte) : (s.transceiverPhase r).ack = s.ack ∧
    (s.transceiverPhase r).xc.irq = s.xc.irq ∧ (s.transceiverPhase r).xc.ackie = s.xc.ackie := by
  refine ⟨congrArg (·.ack) (transceiverPhase_frame s r), ?_, ?_⟩
  all_goals
    obtain ⟨h, -⟩ | ⟨b, -, h⟩ := transceiverPhase_cases s r <;> rw [h]
    obtain ⟨-, h⟩ | ⟨-, -, h⟩ | ⟨-, -, h⟩ := receive_cases { s with xc := { s.xc with sh := none } } r <;>
      simp [State.complete, h]

/-- Without a pulse a tick is the transceiver's alone. -/
theorem awaiting_quiet {s : State} (h : s.advance.devInput.ack = false) :
    awaiting s = s.advance.dropDev.transceiverPhase s.advance.devInput.rx := by
  rw [awaiting, h]
  rfl

/-- Without a pulse both latches stay. -/
theorem awaiting_latches_quiet {s : State} (h : s.advance.devInput.ack = false) :
    (awaiting s).ack = s.ack ∧ (awaiting s).xc.irq = s.xc.irq := by
  obtain ⟨hack, hirq, -⟩ := transceiverPhase_latches s.advance.dropDev s.advance.devInput.rx
  rw [awaiting_quiet h]
  exact ⟨hack, hirq⟩

theorem awaiting_ackie (s : State) : (awaiting s).xc.ackie = s.xc.ackie := by
  rw [awaiting, ackPhase_frame]
  obtain ⟨-, -, hackie⟩ := transceiverPhase_latches s.advance.dropDev s.advance.devInput.rx
  exact hackie

/-- A latched pulse stays latched. -/
theorem awaiting_latched {s : State} (h : s.ack = true) : (awaiting s).ack = true := by
  obtain ⟨hack, -, -⟩ := transceiverPhase_latches s.advance.dropDev s.advance.devInput.rx
  rw [awaiting]
  obtain ⟨-, heq⟩ | ⟨-, -, heq⟩ | ⟨-, -, heq⟩ := ackPhase_cases
    (s.advance.dropDev.transceiverPhase s.advance.devInput.rx) s.advance.devInput.ack <;> rw [heq]
  · exact hack.trans h
  · exact hack.trans h

/-- A pulse is latched where it may be. -/
theorem awaiting_pulse {s : State} (h : s.advance.devInput.ack = true) (hackie : s.xc.ackie = true)
    (hirq : s.xc.irq = false) : (awaiting s).ack = true := by
  obtain ⟨-, hirq', hackie'⟩ := transceiverPhase_latches s.advance.dropDev s.advance.devInput.rx
  rw [awaiting]
  obtain ⟨hno, -⟩ | ⟨-, hno, -⟩ | ⟨-, -, heq⟩ := ackPhase_cases
    (s.advance.dropDev.transceiverPhase s.advance.devInput.rx) s.advance.devInput.ack
  · rw [h] at hno
    cases hno
  · rw [hirq', hackie'] at hno
    change (s.xc.ackie && !s.xc.irq) = false at hno
    simp [hackie, hirq] at hno
  · rw [heq]

/-- The devices' input of a tick from a list that has it. -/
theorem devInput_drift {k : Nat} {s : State} {d : DevInput} (h : s.dev[k]? = some d) :
    (drift k s).advance.devInput = d := by
  obtain ⟨hk, rfl⟩ := List.getElem?_eq_some_iff.mp h
  refine devInput_cons (ds := s.dev.drop (k + 1)) ?_
  change (drift k s).dev = _
  rw [drift_dev, List.drop_eq_getElem_cons hk]

theorem noPulse_mono {j k : Nat} {s : State} (h : noPulse k s) (hj : j ≤ k) : noPulse j s :=
  fun i hi => h i (hi.trans_le hj)

theorem devInput_quiet {j k : Nat} {s : State} (h : noPulse k s) (hj : j < k) :
    (drift j s).advance.devInput.ack = false := by
  obtain ⟨d, hd, hack⟩ := h j hj
  rw [devInput_drift hd]
  exact hack

/-- Without pulses both latches stay. -/
theorem drift_latches_quiet {k : Nat} {s : State} (h : noPulse k s) :
    (drift k s).ack = s.ack ∧ (drift k s).xc.irq = s.xc.irq := by
  induction k with
  | zero => exact ⟨rfl, rfl⟩
  | succ k ih =>
    obtain ⟨hack, hirq⟩ := ih (noPulse_mono h (Nat.le_succ k))
    obtain ⟨hack', hirq'⟩ := awaiting_latches_quiet (devInput_quiet h (Nat.lt_succ_self k))
    rw [drift_succ]
    exact ⟨hack'.trans hack, hirq'.trans hirq⟩

theorem drift_ackie (k : Nat) (s : State) : (drift k s).xc.ackie = s.xc.ackie := by
  induction k with
  | zero => rfl
  | succ k ih => rw [drift_succ, awaiting_ackie, ih]

theorem drift_latched {k : Nat} {s : State} (h : s.ack = true) : (drift k s).ack = true := by
  induction k with
  | zero => exact h
  | succ k ih =>
    rw [drift_succ]
    exact awaiting_latched ih

theorem drift_add (j k : Nat) (s : State) : drift (j + k) s = drift k (drift j s) := by
  unfold drift
  rw [Nat.add_comm, Function.iterate_add_apply]

/-- The first pulse is latched, and found at any later tick. -/
theorem drift_pulse {p k : Nat} {s : State} (hp : p < k) (hackie : s.xc.ackie = true)
    (hirq : s.xc.irq = false) (hquiet : noPulse p s) (hpulse : ∃ d, s.dev[p]? = some d ∧ d.ack = true) :
    (drift k s).ack = true := by
  obtain ⟨d, hd, hack⟩ := hpulse
  obtain ⟨j, rfl⟩ := Nat.exists_eq_add_of_le (Nat.succ_le_of_lt hp)
  obtain ⟨-, hirq'⟩ := drift_latches_quiet hquiet
  rw [drift_add, Nat.succ_eq_add_one, drift_succ]
  refine drift_latched (awaiting_pulse ?_ ((drift_ackie p s).trans hackie) (hirq'.trans hirq))
  rw [devInput_drift hd]
  exact hack

/-! ### The sequencer's own state through those phases -/

/-- A state with another STATE and another sequencer state. -/
def withSeq (q : SeqState) (x : Sequencer) (s : State) : State := { s with st := q, seq := x }

section

variable (q : SeqState) (x : Sequencer) (s : State)

theorem receive_withSeq (r : Byte) : (withSeq q x s).receive r = withSeq q x (s.receive r) := by
  unfold State.receive
  change (if s.xc.rxen then if s.xc.rxf.length < s.cfg.rxFifoDepth then _ else _ else _) = _
  split_ifs <;> rfl

theorem tryLoad_withSeq : (withSeq q x s).tryLoad = withSeq q x s.tryLoad := by
  obtain ⟨h, hidle⟩ | ⟨b, htxh, hsh, hen, h⟩ := tryLoad_cases s <;> rw [h]
  · exact tryLoad_idle (s := withSeq q x s) hidle
  · exact tryLoad_loads (s := withSeq q x s) htxh hsh hen

theorem transceiverPhase_withSeq (r : Byte) :
    (withSeq q x s).transceiverPhase r = withSeq q x (s.transceiverPhase r) := by
  have hcomplete : (withSeq q x s).complete r = withSeq q x (s.complete r) := by
    rw [State.complete, State.complete, ← tryLoad_withSeq, ← receive_withSeq]
    rfl
  unfold State.transceiverPhase
  rw [hcomplete]
  change (match s.xc.sh with
    | some (_, t) => if t = s.now then withSeq q x (s.complete r) else withSeq q x s
    | none => withSeq q x s) = _
  cases s.xc.sh with
  | none => rfl
  | some p => exact (apply_ite (withSeq q x) (p.2 = s.now) (s.complete r) s).symm

theorem ackPhase_withSeq (p : Bool) : (withSeq q x s).ackPhase p = withSeq q x (s.ackPhase p) := by
  cases p with
  | false => rfl
  | true =>
    exact (apply_ite (withSeq q x) ((s.xc.ackie && !s.xc.irq) = true)
      { s.record (.ack s.now) with xc := { s.xc with irq := true }, ack := true }
      (s.record (.ack s.now))).symm

theorem awaiting_withSeq : awaiting (withSeq q x s) = withSeq q x (awaiting s) := by
  rw [awaiting, awaiting, ← ackPhase_withSeq, ← transceiverPhase_withSeq]
  rfl

theorem drift_withSeq (k : Nat) : drift k (withSeq q x s) = withSeq q x (drift k s) := by
  induction k with
  | zero => rfl
  | succ k ih => rw [drift_succ, drift_succ, ih, awaiting_withSeq]

end

/-! ### The waiter's polls (R203) -/

/-- A waiter that polls: it sleeps for 10 ticks with a budget left. -/
structure Polls (s : State) (r : Nat) : Prop where
  st : s.st = .waitCmd ∨ s.st = .addrAck ∨ s.st = .dataAck
  susp : s.seq.susp = some (.untilTick (s.now + 10))
  rem : s.seq.rem = r
  busy : s.busy = true

/-- The waiter after `m` polls without a pulse. -/
def polled (m : Nat) (s : State) : State :=
  withSeq s.st { s.seq with
    rem := s.seq.rem - 10 * m
    susp := some (.untilTick (s.now + 10 * m + 10)) } (drift (10 * m) s)

theorem polled_zero {s : State} {r : Nat} (h : Polls s r) : polled 0 s = s := by
  have hrem : s.seq.rem - 10 * ((0 : Nat) : Int) = s.seq.rem := by simp
  have hsusp : some (Susp.untilTick (s.now + 10 * 0 + 10)) = s.seq.susp := h.susp.symm
  rw [polled, hrem, hsusp]
  rfl

/-- The waiter at the check that follows `m` polls without a pulse. -/
def checking (m : Nat) (s : State) : State :=
  withSeq s.st { s.seq with
    rem := s.seq.rem - 10 * m
    susp := some (.untilTick (s.now + 10 * m + 10)) } (drift (10 * m + 10) s)

theorem drift_polled (m : Nat) (s : State) : drift 10 (polled m s) = checking m s := by
  rw [polled, drift_withSeq, ← drift_add]
  rfl

/-- From the state after `m` polls to the next check. -/
theorem ticks_polled (m : Nat) (s : State) : ticks 10 (polled m s) = (checking m s).sequencerPhase ∧
    (s.busy = true → BusyFor 10 (polled m s)) := by
  have hnow : (polled m s).now = s.now + 10 * m := drift_now (10 * m) s
  have hdelay := ticks_delay (d := 10) (s := polled m s) (by rw [hnow]; rfl) (by decide)
  rw [drift_polled] at hdelay
  exact ⟨hdelay.1, fun hb => hdelay.2 ((drift_busy (10 * m) s).trans hb)⟩

theorem checking_susp (m : Nat) (s : State) :
    (checking m s).seq.susp = some (.untilTick (checking m s).now) := by
  have hnow : (checking m s).now = s.now + 10 * m + 10 :=
    (drift_now (10 * m + 10) s).trans (Nat.add_assoc ..).symm
  rw [hnow]
  rfl

/-- Polls without a pulse, as long as a budget is left. -/
theorem ticks_polls {s : State} {r m : Nat} (h : Polls s r) (hack : s.ack = false)
    (hm : 10 * m < r) (hquiet : noPulse (10 * m) s) :
    ticks (10 * m) s = polled m s ∧ BusyFor (10 * m) s := by
  induction m with
  | zero => exact ⟨(polled_zero h).symm, busyFor_zero s⟩
  | succ m ih =>
    obtain ⟨hticks, hbusy⟩ := ih (by omega) (noPulse_mono hquiet (by omega))
    obtain ⟨hten, hbusyTen⟩ := ticks_polled m s
    obtain ⟨hagain, -⟩ := waiterChecks (checking m s) (checking_susp m s) h.st
    have hleft : (0 : Int) < (checking m s).seq.rem - 10 := by
      change 0 < s.seq.rem - 10 * m - 10
      rw [h.rem]
      omega
    have hno : (checking m s).ack = false := by
      obtain ⟨hsame, -⟩ := drift_latches_quiet (k := 10 * m + 10) hquiet
      exact hsame.trans hack
    refine ⟨?_, hbusy.add (hticks ▸ hbusyTen h.busy)⟩
    have hlen : 10 * (m + 1) = 10 * m + 10 := rfl
    rw [hlen, ticks_add, hticks, hten, hagain hleft hno]
    have hrem : s.seq.rem - 10 * m - 10 = s.seq.rem - 10 * ((m + 1 : Nat) : Int) := by omega
    have hnow : (checking m s).now + 10 = s.now + 10 * (m + 1) + 10 := by
      rw [show (checking m s).now = s.now + (10 * m + 10) from drift_now _ s]
      rfl
    unfold polled sleeps waits
    rw [hnow, ← hrem]
    rfl

/-- The check after `m` polls without a pulse. -/
theorem ticks_check {s : State} {r m : Nat} (h : Polls s r) (hack : s.ack = false)
    (hm : 10 * m < r) (hquiet : noPulse (10 * m) s) :
    ticks (10 * m + 10) s = (checking m s).sequencerPhase ∧ BusyFor (10 * m + 10) s := by
  obtain ⟨hticks, hbusy⟩ := ticks_polls h hack hm hquiet
  obtain ⟨hten, hbusyTen⟩ := ticks_polled m s
  rw [ticks_add, hticks]
  exact ⟨hten, hbusy.add (hticks ▸ hbusyTen h.busy)⟩

/-- The last check of a budget comes `waitTicks` ticks after the waiter began. -/
theorem waitTicks_eq {r : Nat} (hr : 0 < r) :
    ∃ m, waitTicks r = 10 * m + 10 ∧ 10 * m < r ∧ r ≤ 10 * m + 10 := by
  refine ⟨(r - 1) / 10, ?_, by omega, by omega⟩
  unfold waitTicks
  omega

/-- WAITACK's START with a timeout and no latched pulse leaves it polling (R208). -/
theorem waitack_polls {s t : State} (hb : s.busy = false) (hack : s.ack = false)
    (h0 : s.stimeout ≠ 0) (hexec : exec .waitack s = .next t) :
    Polls t s.stimeout.toNat ∧ t.st = .waitCmd ∧ t.now = s.now ∧ t.dev = s.dev ∧ t.ack = false ∧
      t.xc = s.xc := by
  obtain ⟨-, -, hsleeps⟩ := Starts.waitackStart s hb
  have heq := (hsleeps h0 hack).symm.trans hexec
  injection heq with heq
  subst heq
  exact ⟨⟨.inl rfl, rfl, rfl, rfl⟩, rfl, rfl, rfl, hack, rfl⟩

/-- Settles O56: the polls of the whole budget, and the check that finds none left. -/
theorem waitWithoutAPulse : Obligations.WaitWithoutAPulse := by
  intro s t hb hack hexec hquiet u
  by_cases h0 : s.stimeout = 0
  · obtain ⟨hends, -⟩ := Starts.waitackStart s hb
    have heq := (hends h0).symm.trans hexec
    injection heq with heq
    have hzero : waitTicks s.stimeout.toNat = 0 := by rw [h0]; rfl
    have hu : u = t := by
      change ticks (waitTicks s.stimeout.toNat) t = t
      rw [hzero]
      rfl
    rw [hu, hzero, ← heq]
    exact ⟨rfl, rfl, rfl, hack, rfl, rfl, busyFor_zero _⟩
  · obtain ⟨hpolls, hst, hnow, hdev, hackt, hxc⟩ := waitack_polls hb hack h0 hexec
    have hpos : 0 < s.stimeout.toNat := Nat.pos_of_ne_zero fun h => h0 (BitVec.eq_of_toNat_eq h)
    obtain ⟨m, hlen, hm, hlast⟩ := waitTicks_eq hpos
    have hquiet : noPulse (10 * m + 10) t := by
      rw [← hlen]
      unfold noPulse
      rw [hdev]
      exact hquiet
    obtain ⟨hcheck, hbusy⟩ := ticks_check hpolls hackt hm (noPulse_mono hquiet (by omega))
    obtain ⟨hack', hirq'⟩ := drift_latches_quiet hquiet
    obtain ⟨-, -, hlate⟩ := waiterChecks (checking m t) (checking_susp m t) (.inl hst)
    have hleft : (checking m t).seq.rem - 10 ≤ 0 := by
      change t.seq.rem - 10 * m - 10 ≤ 0
      rw [hpolls.rem]
      omega
    have hu : u = _ := (hlen ▸ hcheck).trans ((hlate hleft).1 hst)
    rw [hlen, hu]
    refine ⟨rfl, rfl, rfl, hack'.trans hackt, hirq'.trans (by rw [hxc]), ?_, hbusy⟩
    exact (drift_now _ t).trans (by rw [hnow])

/-- Settles O57: polls up to the pulse, and the check that finds it. -/
theorem waitWithAPulse : Obligations.WaitWithAPulse := by
  intro s t p hb hack hackie hirq hexec hp hbudget hquiet hpulse u
  have h0 : s.stimeout ≠ 0 := by
    intro h0
    rw [h0] at hbudget
    exact absurd hbudget (by unfold waitTicks; simp)
  obtain ⟨hpolls, hst, hnow, hdev, hackt, hxc⟩ := waitack_polls hb hack h0 hexec
  obtain ⟨m, hlen, hm, hlast⟩ := waitTicks_eq hp
  have hrange : 10 * m + 10 < s.stimeout.toNat := by
    rw [hlen] at hbudget
    unfold waitTicks at hbudget
    omega
  have hquiet : noPulse (p - 1) t := by
    unfold noPulse
    rw [hdev]
    exact hquiet
  obtain ⟨hcheck, hbusy⟩ := ticks_check (m := m) hpolls hackt (by omega) (noPulse_mono hquiet (by omega))
  have hlatched : (checking m t).ack = true :=
    drift_pulse (p := p - 1) (by omega) (by rw [hxc]; exact hackie) (by rw [hxc]; exact hirq) hquiet
      (by rw [hdev]; exact hpulse)
  obtain ⟨-, hcaught, -⟩ := waiterChecks (checking m t) (checking_susp m t) (.inl hst)
  have hleft : (0 : Int) < (checking m t).seq.rem - 10 := by
    change 0 < t.seq.rem - 10 * m - 10
    rw [hpolls.rem]
    omega
  have hu : u = _ := (hlen ▸ hcheck).trans ((hcaught hleft hlatched).1 hst)
  rw [hlen, hu]
  exact ⟨rfl, rfl, rfl, rfl, rfl, hbusy⟩

end Sys2Proof.Time
end

section
/-! PROOFS. The packet routines in time: a byte over an idle line, the delays, and the exact course of an
exchange with an absent device and of a send. -/

namespace Sys2Proof.Packets

open Sys2Proof.Machine Sys2Proof.Claims Sys2Proof.HostWrites Sys2Proof.Bodies Sys2Proof.Routines
  Sys2Proof.Wakes Sys2Proof.Invariant Sys2Proof.Stores Sys2Proof.Time

/-! ### Ticks in which no shift completes (R24, R172, R175) -/

/-- `k` ticks later, with the latches and the record as the pulses have made them. -/
def passed (k : Nat) (a i : Bool) (w : List WireEvent) (s : State) : State :=
  { s with now := s.now + k, dev := s.dev.drop k, ack := a, wire := w, xc := { s.xc with irq := i } }

/-- From `s` to `u` no more than time and pulses have passed; without pulses, time alone. -/
structure Passed (k : Nat) (s u : State) : Prop where
  eq : u = passed k u.ack u.xc.irq u.wire s
  driven : driven u.wire = driven s.wire
  quiet : noPulse k s → u = passed k s.ack s.xc.irq s.wire s

theorem passed_refl (s : State) : Passed 0 s s := ⟨rfl, rfl, fun _ => rfl⟩

/-- The acknowledge phase records no driven event. -/
theorem driven_ackPhase (s : State) (p : Bool) :
    Claims.driven (s.ackPhase p).wire = Claims.driven s.wire := by
  have hack : Claims.driven (s.wire ++ [.ack s.now]) = Claims.driven s.wire := by
    simp [Claims.driven, List.filter_append]
  obtain ⟨-, h⟩ | ⟨-, -, h⟩ | ⟨-, -, h⟩ := ackPhase_cases s p <;> rw [h]
  · exact hack
  · exact hack

/-- One tick more, in which no shift completes. -/
theorem Passed.tick {k : Nat} {s u : State} (h : Passed k s u)
    (hstill : ∀ b, u.xc.sh ≠ some (b, u.now + 1)) : Passed (k + 1) s (awaiting u) := by
  have hphase : awaiting u = u.advance.dropDev.ackPhase u.advance.devInput.ack := by
    rw [awaiting, Transceiver.transceiverPhase_waits _ hstill]
  have hframe := ackPhase_frame u.advance.dropDev u.advance.devInput.ack
  have hdev : u.dev.tail = s.dev.drop (k + 1) := by
    rw [h.eq, passed, List.tail_drop]
  rw [← hphase] at hframe
  refine ⟨?_, ?_, fun hq => ?_⟩
  · calc awaiting u
      _ = { u with
            now := u.now + 1, dev := u.dev.tail, ack := (awaiting u).ack, wire := (awaiting u).wire
            xc := { u.xc with irq := (awaiting u).xc.irq } } := hframe
      _ = _ := by
        rw [hdev, h.eq]
        rfl
  · rw [hphase, driven_ackPhase]
    exact h.driven
  · have hu := h.quiet (noPulse_mono hq (Nat.le_succ k))
    have hno : u.advance.devInput.ack = false := by
      obtain ⟨d, hd, hack⟩ := hq k (Nat.lt_succ_self k)
      obtain ⟨hk, rfl⟩ := List.getElem?_eq_some_iff.mp hd
      have hdevu : u.advance.dev = s.dev[k] :: s.dev.drop (k + 1) := by
        rw [← List.drop_eq_getElem_cons hk, hu]
        rfl
      rw [devInput_cons hdevu]
      exact hack
    rw [hphase, hno]
    calc u.advance.dropDev
      _ = { u with now := u.now + 1, dev := s.dev.drop (k + 1) } := by rw [← hdev]; rfl
      _ = _ := by
        rw [hu]
        rfl

/-- Ticks in which no shift completes. -/
theorem drift_passed {k : Nat} {s : State}
    (h : ∀ j < k, ∀ b, s.xc.sh ≠ some (b, s.now + (j + 1))) : Passed k s (drift k s) := by
  induction k with
  | zero => exact passed_refl s
  | succ k ih =>
    have hk := ih fun j hj => h j (by omega)
    rw [drift_succ]
    refine hk.tick fun b => ?_
    rw [hk.eq]
    exact h k (Nat.lt_succ_self k) b

/-- Over an idle shifter. -/
theorem drift_idle {s : State} (h : s.xc.sh = none) (k : Nat) : Passed k s (drift k s) :=
  drift_passed fun j _ b => by simp [h]

/-! ### A byte over an idle line (R171, R172, R202) -/

/-- The line is configured and idle, and the FIFO empty. -/
structure Clear (s : State) : Prop where
  configured : s.xc.configured = true
  txh : s.xc.txh = none
  sh : s.xc.sh = none
  rxf : s.xc.rxf = []

theorem Clear.passed {k : Nat} {s u : State} (h : Clear s) (hp : Passed k s u) : Clear u := by
  rw [hp.eq]
  exact ⟨h.configured, h.txh, h.sh, h.rxf⟩

/-- The byte of XB in the shifter, and its shift recorded. -/
def shifting (s : State) : State :=
  { s with
    xc := { s.xc with txh := none, sh := some (s.seq.xbByte, s.now + s.cfg.byteUs) }
    wire := s.wire ++ [.shift s.now s.xc.port s.xc.attn s.seq.xbByte] }

/-- The same with the shift done and its reply taken. -/
def shifted (s : State) : State :=
  { s with wire := s.wire ++ [.shift s.now s.xc.port s.xc.attn s.seq.xbByte] }

theorem sent_clear {s : State} (h : Clear s) : sent s = shifting s := by
  obtain ⟨hline, htxen, -⟩ := (configured_iff s.xc).mp h.configured
  exact tryLoad_loads (s := { s with xc := { s.xc with txh := some s.seq.xbByte } }) rfl h.sh
    (Bool.and_eq_true_iff.mpr ⟨htxen, hline⟩)

/-- The acknowledge phase and the FIFO leave each other alone. -/
theorem ackPhase_withRxf (l : List Byte) (p : Bool) (s : State) :
    State.ackPhase { s with xc := { s.xc with rxf := l } } p =
      { s.ackPhase p with xc := { (s.ackPhase p).xc with rxf := l } } := by
  cases p with
  | false => rfl
  | true =>
    exact (apply_ite (fun u : State => { u with xc := { u.xc with rxf := l } })
      ((s.xc.ackie && !s.xc.irq) = true)
      { s.record (.ack s.now) with xc := { s.xc with irq := true }, ack := true }
      (s.record (.ack s.now))).symm

/-- The tick in which a shift over an idle line completes. -/
theorem awaiting_completes {s : State} {b : Byte} (hrxen : s.xc.rxen = true)
    (hdepth : 1 ≤ s.cfg.rxFifoDepth) (htxh : s.xc.txh = none) (hsh : s.xc.sh = some (b, s.now + 1))
    (hrxf : s.xc.rxf = []) :
    ∃ r, awaiting s =
      let u := awaiting { s with xc := { s.xc with sh := none } }
      { u with xc := { u.xc with rxf := [r] } } := by
  let x : State := { s.advance.dropDev with xc := { s.xc with sh := none } }
  have hphase (r : Byte) : s.advance.dropDev.transceiverPhase r =
      { x with xc := { x.xc with rxf := [r] } } := by
    have hroom : x.xc.rxf.length < x.cfg.rxFifoDepth := by
      change s.xc.rxf.length < s.cfg.rxFifoDepth
      rw [hrxf]
      exact hdepth
    have hlist : x.xc.rxf ++ [r] = [r] := by
      change s.xc.rxf ++ [r] = [r]
      rw [hrxf]
      rfl
    rw [Transceiver.transceiverPhase_completes r hsh]
    refine (congrArg State.tryLoad (Transceiver.receive_kept x r hrxen hroom)).trans ?_
    rw [hlist]
    exact tryLoad_idle (s := { x with xc := { x.xc with rxf := [r] } }) (.inl htxh)
  refine ⟨s.advance.devInput.rx, ?_⟩
  have hstill : awaiting { s with xc := { s.xc with sh := none } } =
      x.ackPhase s.advance.devInput.ack := by
    rw [awaiting, Transceiver.transceiverPhase_waits _ (by rintro b ⟨⟩)]
    rfl
  rw [hstill, awaiting, hphase, ackPhase_withRxf]

/-- Over the ticks of a shift the FIFO stays empty, and the last of them puts the reply there. -/
theorem drift_shifting {s : State} (hok : s.cfg.Ok) (h : Clear s) :
    (∀ j < s.cfg.byteUs, (drift j (shifting s)).xc.rxf = []) ∧
      ∃ r u, Passed s.cfg.byteUs (shifted s) u ∧
        drift s.cfg.byteUs (shifting s) = { u with xc := { u.xc with rxf := [r] } } := by
  obtain ⟨-, hbyte, hdepth, -⟩ := hok
  obtain ⟨-, -, hrxen⟩ := (configured_iff s.xc).mp h.configured
  have hstill {k : Nat} (hk : k < s.cfg.byteUs) : Passed k (shifting s) (drift k (shifting s)) := by
    refine drift_passed fun j hj b hb => ?_
    simp only [shifting, Option.some.injEq, Prod.mk.injEq] at hb
    exact absurd (Nat.add_left_cancel hb.2) (by omega)
  refine ⟨fun j hj => by rw [(hstill hj).eq]; exact h.rxf, ?_⟩
  obtain ⟨k, hk⟩ := Nat.exists_eq_add_of_le hbyte
  have hp := hstill (k := k) (by omega)
  have hsum : s.now + s.cfg.byteUs = s.now + k + 1 := by rw [hk, Nat.add_comm 1 k]; rfl
  obtain ⟨r, hr⟩ := awaiting_completes (s := drift k (shifting s)) (b := s.seq.xbByte)
    (by rw [hp.eq]; exact hrxen) (by rw [drift_cfg]; exact hdepth) (by rw [hp.eq]; rfl)
    (by rw [drift_now, hp.eq]; exact congrArg (fun t => some (s.seq.xbByte, t)) hsum)
    (by rw [hp.eq]; exact h.rxf)
  have hxc : { s.xc with txh := none, sh := none } = s.xc := by
    rw [← h.txh, ← h.sh]
  have hopen (u : State) (hu : u = passed k u.ack u.xc.irq u.wire (shifting s)) :
      { u with xc := { u.xc with sh := none } } = passed k u.ack u.xc.irq u.wire (shifted s) := by
    rw [hu]
    exact congrArg (fun x => passed k u.ack u.xc.irq u.wire { shifted s with xc := x }) hxc
  have hempty : Passed k (shifted s)
      { drift k (shifting s) with xc := { (drift k (shifting s)).xc with sh := none } } := by
    refine ⟨hopen _ hp.eq, hp.driven, fun hq => ?_⟩
    have hq := hp.quiet hq
    refine (hopen _ ?_).trans ?_
    · rw [hq]
      rfl
    · rw [hq]
      rfl
  have hnext := hempty.tick (by rintro b ⟨⟩)
  have hlast : drift s.cfg.byteUs (shifting s) = awaiting (drift k (shifting s)) := by
    rw [hk, Nat.add_comm, drift_succ]
  exact ⟨r, _, by rw [hk, Nat.add_comm]; exact hnext, hlast.trans hr⟩

/-! ### What a sleeping sequencer wakes to -/

theorem drift_suspAs (k : Nat) (x : Option Susp) (s : State) :
    drift k (suspAs x s) = suspAs x (drift k s) := by
  have hseq : drift k (suspAs x s) = withSeq s.st { s.seq with susp := x } (drift k s) :=
    drift_withSeq s.st { s.seq with susp := x } s k
  rw [hseq, ← drift_seq k s, ← drift_st k s]
  rfl

theorem drift_atPoint (k : Nat) (q : SeqState) (x : Option Susp) (s : State) :
    drift k (atPoint q x s) = atPoint q x (drift k s) := by
  have hseq : drift k (atPoint q x s) = withSeq q { s.seq with susp := x } (drift k s) :=
    drift_withSeq q { s.seq with susp := x } s k
  rw [hseq, ← drift_seq k s]
  rfl

/-- A delay, from its first tick to the sequencer phase of its last. -/
theorem ticks_sleeps {d : Nat} (hd : d ≠ 0) (q : SeqState) (v : State) :
    ticks d (sleeps v q d) =
        (atPoint q (some (.untilTick (v.now + d))) (drift d v)).sequencerPhase ∧
      (v.busy = true → BusyFor d (sleeps v q d)) := by
  have hdelay := ticks_delay (s := sleeps v q d) rfl hd
  rw [show sleeps v q d = atPoint q (some (.untilTick (v.now + d))) v from rfl, drift_atPoint]
    at hdelay
  exact hdelay

theorem ReplyPoint.suspended {v : State} (h : ReplyPoint v) (x : Option Susp) :
    ReplyPoint (suspAs x v) := by
  cases h with
  | byteCmd h => exact .byteCmd h
  | addr h => exact .addr h
  | xfer h hn hcap hi => exact .xfer h hn hcap hi
  | naByte h hi => exact .naByte h hi

/-- A shift over an idle line, from its first tick to the sequencer phase that takes the reply. -/
theorem ticks_shifting {v : State} (hok : v.cfg.Ok) (h : Clear v) (hpoint : ReplyPoint v) :
    ∃ r u, Passed v.cfg.byteUs (shifted v) u ∧
      ticks v.cfg.byteUs (waits (shifting v) .rxReady) =
        replied packetEnded r (suspAs (some .rxReady) u) ∧
      (v.busy = true → BusyFor v.cfg.byteUs (waits (shifting v) .rxReady)) := by
  obtain ⟨hempty, r, u, hu, hlast⟩ := drift_shifting hok h
  obtain ⟨-, hbyte, -⟩ := hok
  obtain ⟨k, hk⟩ := Nat.exists_eq_succ_of_ne_zero (Nat.ne_of_gt hbyte)
  have hdrift (j : Nat) : drift j (waits (shifting v) .rxReady) =
      suspAs (some .rxReady) (drift j (shifting v)) := drift_suspAs j (some .rxReady) (shifting v)
  have hsleep (j : Nat) (hj : j < k) : (drift (j + 1) (waits (shifting v) .rxReady)).sequencerPhase =
      drift (j + 1) (waits (shifting v) .rxReady) := by
    rw [hdrift]
    exact sequencerPhase_listens rfl (hempty (j + 1) (by omega))
  refine ⟨r, u, hu, ?_, fun hb => ?_⟩
  · have hpoint : ReplyPoint (suspAs (some .rxReady) { u with xc := { u.xc with rxf := [r] } }) := by
      refine ReplyPoint.suspended (hpoint.congr ?_ ?_) _
      · exact congrArg (·.st) hu.eq
      · exact congrArg (·.seq) hu.eq
    rw [hk, Nat.succ_eq_add_one, ticks_wake hsleep, hdrift, ← Nat.succ_eq_add_one, ← hk, hlast,
      sequencerPhase_replied hpoint rfl rfl]
    have hrxf : u.xc.rxf = [] := by
      rw [hu.eq]
      exact h.rxf
    have hback : { u with xc := { u.xc with rxf := [] } } = u := by rw [← hrxf]
    exact congrArg (fun w => replied packetEnded r (suspAs (some .rxReady) w)) hback
  · rw [hk]
    exact busyFor_drift hb hsleep

/-! ### From TRAIL to the command's end (R205, R230, R235) -/

/-- The commands whose packet routine returns to the command's end, with the count they report. -/
def EndsWith (c : Option Cmd) (f : Nat → Byte) : Prop :=
  ∀ u : State, u.seq.cur = c → packetEnded u = ended { u with sresplen := f u.seq.n }

theorem endsWith_xchg : EndsWith (some .xchg) (BitVec.ofNat 8) := by
  intro u hc
  unfold packetEnded
  rw [hc]

theorem endsWith_xnoack : EndsWith (some .xnoack) (fun _ => 0) := by
  intro u hc
  unfold packetEnded
  rw [hc]

/-- Attention released, and the command's end after the post-release delay. -/
theorem ticks_released {f : Nat → Byte} {v : State} (hf : EndsWith v.seq.cur f)
    (q : SeqState) (x : Option Susp) :
    ticks v.cfg.tPostUs (released packetEnded (atPoint q x v)) =
        ended { drift v.cfg.tPostUs (lowered v) with sresplen := f v.seq.n } ∧
      (v.busy = true → BusyFor v.cfg.tPostUs (released packetEnded (atPoint q x v))) := by
  by_cases h0 : v.cfg.tPostUs = 0
  · have hrel : released packetEnded (atPoint q x v) =
        ended { lowered v with sresplen := f v.seq.n } := by
      refine (if_pos h0).trans ?_
      exact (hf (suspAs x { lowered v with st := .post }) rfl).trans rfl
    rw [h0, hrel]
    exact ⟨rfl, fun _ => busyFor_zero _⟩
  · have hrel : released packetEnded (atPoint q x v) = sleeps (lowered v) .post v.cfg.tPostUs :=
      if_neg h0
    obtain ⟨hticks, hbusy⟩ := ticks_sleeps h0 .post (lowered v)
    rw [hrel]
    have hposted := sequencerPhase_posted
      (s := atPoint .post (some (.untilTick (v.now + v.cfg.tPostUs))) (drift v.cfg.tPostUs (lowered v)))
      rfl rfl (drift_now _ (lowered v)).symm
    refine ⟨hticks.trans (hposted.trans ?_), hbusy⟩
    have hseq : (drift v.cfg.tPostUs (lowered v)).seq = v.seq := drift_seq _ _
    have hcur : (drift v.cfg.tPostUs (lowered v)).seq.cur = v.seq.cur := by rw [hseq]
    refine (hf (atPoint .post (some (.untilTick (v.now + v.cfg.tPostUs)))
      (drift v.cfg.tPostUs (lowered v))) hcur).trans ?_
    change ended { drift v.cfg.tPostUs (lowered v) with
      sresplen := f (drift v.cfg.tPostUs (lowered v)).seq.n } = _
    rw [hseq]

/-- The trailing delay, attention's release, and the command's end. -/
theorem ticks_trailed {f : Nat → Byte} {v : State} (hf : EndsWith v.seq.cur f) :
    ticks (v.cfg.tTrailUs + v.cfg.tPostUs) (trailed packetEnded v) =
        ended { drift v.cfg.tPostUs (lowered (drift v.cfg.tTrailUs v)) with sresplen := f v.seq.n } ∧
      (v.busy = true → BusyFor (v.cfg.tTrailUs + v.cfg.tPostUs) (trailed packetEnded v)) := by
  by_cases h0 : v.cfg.tTrailUs = 0
  · have htrail : trailed packetEnded v = released packetEnded v := if_pos h0
    rw [h0, Nat.zero_add, htrail]
    exact ticks_released hf v.st v.seq.susp
  · have htrail : trailed packetEnded v = sleeps v .trail v.cfg.tTrailUs := if_neg h0
    obtain ⟨hticks, hbusy⟩ := ticks_sleeps h0 .trail v
    have hticks := hticks.trans (sequencerPhase_trailed
      (s := atPoint .trail (some (.untilTick (v.now + v.cfg.tTrailUs))) (drift v.cfg.tTrailUs v))
      rfl rfl (drift_now _ v).symm)
    have hrel := ticks_released (v := drift v.cfg.tTrailUs v) (f := f) (by rw [drift_seq]; exact hf)
      .trail (some (.untilTick (v.now + v.cfg.tTrailUs)))
    rw [drift_cfg, drift_seq, drift_busy, ← hticks] at hrel
    rw [htrail, ticks_add]
    exact ⟨hrel.1, fun hb => (hbusy hb).add (hrel.2 hb)⟩

/-! ### The send (R235, R236) -/

/-- The state at the head of XNA's loop: XNOACK runs with attention asserted over a clear line. -/
structure Sending (v : State) : Prop where
  params : v.cfg.Ok
  clear : Clear v
  cur : v.seq.cur = some .xnoack
  src : v.seq.src = .reqbuf
  attn : v.xc.attn = true
  busy : v.busy = true
  bound : v.seq.i + v.seq.rl ≤ 64

/-- The state a send leaves, whose driven events end in `w` and attention's fall. -/
structure SendEnds (v : State) (w : List WireEvent) (u : State) : Prop where
  busy : u.busy = false
  done : u.done = true
  resplen : u.sresplen = 0
  result : u.sresult = v.sresult
  mem : u.mem = v.mem
  attn : u.xc.attn = false
  port : u.xc.port = v.xc.port
  driven : driven u.wire = driven v.wire ++ w

/-- The events of `l` bytes from the one the index points to, a round every `d` ticks. -/
def sendEvents (v : State) (l d : Nat) : List WireEvent :=
  (List.range l).map (fun k => .shift (v.now + k * d) v.xc.port true (req v (v.seq.i + k)))
    ++ [.attn (v.now + l * d + v.cfg.tTrailUs) v.xc.port false]

theorem driven_append (w w' : List WireEvent) :
    Claims.driven (w ++ w') = Claims.driven w ++ Claims.driven w' := List.filter_append ..

/-- After the last byte. -/
theorem send_closes {v : State} (h : Sending v) (hrl : v.seq.rl = 0) (d : Nat) :
    SendEnds v (sendEvents v 0 d)
        (ticks (v.cfg.tTrailUs + v.cfg.tPostUs) (sendNext packetEnded [] v)) ∧
      BusyFor (v.cfg.tTrailUs + v.cfg.tPostUs) (sendNext packetEnded [] v) := by
  obtain ⟨hticks, hbusy⟩ := ticks_trailed (v := v) (h.cur ▸ endsWith_xnoack)
  have htrail := drift_idle h.clear.sh v.cfg.tTrailUs
  have hpost := drift_idle (s := lowered (drift v.cfg.tTrailUs v)) (by
    change (drift v.cfg.tTrailUs v).xc.sh = none
    rw [htrail.eq]
    exact h.clear.sh) v.cfg.tPostUs
  have hdriven : driven (lowered (drift v.cfg.tTrailUs v)).wire = driven v.wire ++ sendEvents v 0 d := by
    have hattn : (drift v.cfg.tTrailUs v).xc.attn = true := by
      rw [htrail.eq]
      exact h.attn
    have hport : (drift v.cfg.tTrailUs v).xc.port = v.xc.port := congrArg (·.xc.port) htrail.eq
    rw [lowered, hattn, if_pos rfl, driven_append, htrail.driven, hport, drift_now, sendEvents]
    simp [driven]
  rw [sendNext_done [] hrl, hticks]
  exact ⟨{
    busy := rfl
    done := rfl
    resplen := rfl
    result := (congrArg (·.sresult) hpost.eq).trans (congrArg (·.sresult) htrail.eq)
    mem := (congrArg (·.mem) hpost.eq).trans (congrArg (·.mem) htrail.eq)
    attn := congrArg (·.xc.attn) hpost.eq
    port := (congrArg (·.xc.port) hpost.eq).trans (congrArg (·.xc.port) htrail.eq)
    driven := hpost.driven.trans hdriven }, hbusy h.busy⟩

/-- What a round of XNA's loop keeps and moves on. -/
structure Round (v y : State) : Prop where
  sending : Sending y
  i : y.seq.i = v.seq.i + 1
  rl : y.seq.rl + 1 = v.seq.rl
  now : y.now = v.now + (v.cfg.byteUs + v.cfg.tIbdUs)
  cfg : y.cfg = v.cfg
  mem : y.mem = v.mem
  resets : y.resets = v.resets
  result : y.sresult = v.sresult
  port : y.xc.port = v.xc.port
  driven : driven y.wire = driven v.wire ++ [.shift v.now v.xc.port true (req v v.seq.i)]

theorem replied_naByte {k : State → State} {v : State} (hst : v.st = .naByte) (hi : v.seq.i ≠ 0)
    (r : Byte) : replied k r v =
      if v.cfg.tIbdUs = 0 then sendNext k v.xc.rxf v else sleeps v .naIbd v.cfg.tIbdUs := by
  unfold replied
  rw [hst]
  exact if_neg hi

/-- After the inter-byte delay the loop goes on, also where it is passed at once. -/
theorem ticks_spaced {u : State} (hclear : Clear u) (hst : u.st = .naByte) (hi : u.seq.i ≠ 0)
    (hbound : u.seq.i + u.seq.rl ≤ 64) (x : Option Susp) (r : Byte) :
    ∃ q y, ticks u.cfg.tIbdUs (replied packetEnded r (suspAs x u)) =
        sendNext packetEnded [] (atPoint q y (drift u.cfg.tIbdUs u)) ∧
      (u.busy = true → BusyFor u.cfg.tIbdUs (replied packetEnded r (suspAs x u))) := by
  have hreply : replied packetEnded r (suspAs x u) =
      if u.cfg.tIbdUs = 0 then sendNext packetEnded u.xc.rxf (suspAs x u)
      else sleeps u .naIbd u.cfg.tIbdUs := replied_naByte (v := suspAs x u) hst hi r
  rw [hreply]
  by_cases h0 : u.cfg.tIbdUs = 0
  · refine ⟨u.st, x, ?_, fun _ => ?_⟩
    · rw [if_pos h0, h0, hclear.rxf]
      rfl
    · rw [h0]
      exact busyFor_zero _
  · obtain ⟨hticks, hbusy⟩ := ticks_sleeps h0 .naIbd u
    have hrxf : (drift u.cfg.tIbdUs u).xc.rxf = [] :=
      (hclear.passed (drift_idle hclear.sh u.cfg.tIbdUs)).rxf
    have hspaced := sequencerPhase_spaced
      (s := atPoint .naIbd (some (.untilTick (u.now + u.cfg.tIbdUs))) (drift u.cfg.tIbdUs u))
      rfl rfl (drift_now _ u).symm (by
        change (drift u.cfg.tIbdUs u).seq.i + (drift u.cfg.tIbdUs u).seq.rl ≤ 64
        rw [drift_seq]
        exact hbound)
    refine ⟨.naIbd, some (.untilTick (u.now + u.cfg.tIbdUs)), ?_, fun hb => ?_⟩
    · rw [if_neg h0]
      refine hticks.trans (hspaced.trans ?_)
      change sendNext packetEnded (drift u.cfg.tIbdUs u).xc.rxf _ = _
      rw [hrxf]
    · rw [if_neg h0]
      exact hbusy hb

/-- A round of XNA's loop: a byte time and the inter-byte delay. -/
theorem send_round {v : State} (h : Sending v) (hrl : v.seq.rl ≠ 0) :
    ∃ y, Round v y ∧
      ticks (v.cfg.byteUs + v.cfg.tIbdUs) (sendNext packetEnded [] v) = sendNext packetEnded [] y ∧
      BusyFor (v.cfg.byteUs + v.cfg.tIbdUs) (sendNext packetEnded [] v) := by
  have hclear : Clear (sendingNext v) := ⟨h.clear.configured, h.clear.txh, h.clear.sh, h.clear.rxf⟩
  have hbound : (sendingNext v).seq.i + (sendingNext v).seq.rl ≤ 64 := by
    have hb := h.bound
    change v.seq.i + 1 + (v.seq.rl - 1) ≤ 64
    omega
  have hnext : sendNext packetEnded [] v = waits (shifting (sendingNext v)) .rxReady := by
    rw [sendNext_round [] hrl, h.clear.txh, sent_clear hclear] <;> rfl
  obtain ⟨r, u, hu, hticks, hbusy⟩ := ticks_shifting (v := sendingNext v) h.params hclear
    (.naByte rfl hbound)
  have hcfg : u.cfg = v.cfg := congrArg (·.cfg) hu.eq
  have hclearu : Clear u := by
    rw [hu.eq]
    exact ⟨hclear.configured, hclear.txh, hclear.sh, hclear.rxf⟩
  have hseq : u.seq = (sendingNext v).seq := congrArg (·.seq) hu.eq
  obtain ⟨q, x, hspaced, hbusyIbd⟩ := ticks_spaced hclearu (congrArg (·.st) hu.eq)
    (by rw [hseq]; exact Nat.succ_ne_zero _) (by rw [hseq]; exact hbound) (some .rxReady) r
  have hp := drift_idle hclearu.sh u.cfg.tIbdUs
  rw [hcfg] at hp hspaced hbusyIbd
  refine ⟨atPoint q x (drift v.cfg.tIbdUs u), ?_, ?_, ?_⟩
  · have hclearp := hclearu.passed hp
    have hseqp : (drift v.cfg.tIbdUs u).seq = (sendingNext v).seq := (drift_seq _ u).trans hseq
    have hport : (drift v.cfg.tIbdUs u).xc.port = v.xc.port :=
      (congrArg (·.xc.port) hp.eq).trans (congrArg (·.xc.port) hu.eq)
    have hbyte : nextRequestByte v = req v v.seq.i := by
      unfold nextRequestByte
      rw [h.src]
    have hwire : driven (shifted (sendingNext v)).wire =
        driven v.wire ++ [.shift v.now v.xc.port true (req v v.seq.i)] := by
      change driven (v.wire ++ [.shift v.now v.xc.port v.xc.attn (nextRequestByte v)]) = _
      rw [driven_append, h.attn, hbyte]
      rfl
    exact {
      sending := {
        params := by rw [show (atPoint q x (drift v.cfg.tIbdUs u)).cfg = v.cfg from
          (drift_cfg _ u).trans hcfg]; exact h.params
        clear := ⟨hclearp.configured, hclearp.txh, hclearp.sh, hclearp.rxf⟩
        cur := (congrArg (·.cur) hseqp).trans h.cur
        src := (congrArg (·.src) hseqp).trans h.src
        attn := ((congrArg (·.xc.attn) hp.eq).trans (congrArg (·.xc.attn) hu.eq)).trans h.attn
        busy := ((drift_busy _ u).trans (congrArg (·.busy) hu.eq)).trans h.busy
        bound := by
          change (drift v.cfg.tIbdUs u).seq.i + (drift v.cfg.tIbdUs u).seq.rl ≤ 64
          rw [hseqp]
          exact hbound }
      i := congrArg (·.i) hseqp
      rl := by
        rw [show (atPoint q x (drift v.cfg.tIbdUs u)).seq.rl = v.seq.rl - 1 from
          congrArg (·.rl) hseqp]
        omega
      now := by
        have hnow : u.now = v.now + v.cfg.byteUs := congrArg (·.now) hu.eq
        change (drift v.cfg.tIbdUs u).now = _
        rw [drift_now, hnow]
        exact Nat.add_assoc ..
      cfg := (drift_cfg _ u).trans hcfg
      mem := (drift_mem _ u).trans (congrArg (·.mem) hu.eq)
      resets := (congrArg (·.resets) hp.eq).trans (congrArg (·.resets) hu.eq)
      result := (congrArg (·.sresult) hp.eq).trans (congrArg (·.sresult) hu.eq)
      port := hport
      driven := hp.driven.trans (hu.driven.trans hwire) }
  · rw [hnext, ticks_add]
    exact (congrArg (ticks v.cfg.tIbdUs) hticks).trans hspaced
  · rw [hnext]
    refine (hbusy h.busy).add ?_
    have hb := hbusyIbd ((congrArg (·.busy) hu.eq).trans h.busy)
    exact hticks ▸ hb

/-- The events of a send are those of its first round and of the rest. -/
theorem sendEvents_succ {v y : State} (h : Round v y) (l : Nat) :
    sendEvents v (l + 1) (v.cfg.byteUs + v.cfg.tIbdUs) =
      [.shift v.now v.xc.port true (req v v.seq.i)] ++
        sendEvents y l (v.cfg.byteUs + v.cfg.tIbdUs) := by
  have hreq (k : Nat) : req y k = req v k := readByte_congr h.mem h.resets _
  have hlater (k : Nat) : v.now + (k + 1) * (v.cfg.byteUs + v.cfg.tIbdUs) =
      y.now + k * (v.cfg.byteUs + v.cfg.tIbdUs) := by
    rw [h.now, Nat.add_mul, Nat.one_mul, Nat.add_comm (k * _)]
    exact (Nat.add_assoc ..).symm
  have hindex (k : Nat) : v.seq.i + (k + 1) = y.seq.i + k := by
    rw [h.i]
    omega
  have hfirst : v.now + 0 * (v.cfg.byteUs + v.cfg.tIbdUs) = v.now := by rw [Nat.zero_mul]; rfl
  unfold sendEvents
  rw [List.range_succ_eq_map, List.map_cons, List.map_map, hlater l, hfirst, h.cfg, h.port,
    List.cons_append]
  refine congrArg₂ List.cons rfl (congrArg (· ++ _) (List.map_congr_left fun k _ => ?_))
  change WireEvent.shift (v.now + (k + 1) * _) _ _ (req v (v.seq.i + (k + 1))) = _
  rw [hlater, hindex, hreq]

/-- The whole send from the head of its loop. -/
theorem send_course {l : Nat} {v : State} (h : Sending v) (hrl : v.seq.rl = l) :
    SendEnds v (sendEvents v l (v.cfg.byteUs + v.cfg.tIbdUs))
        (ticks (l * (v.cfg.byteUs + v.cfg.tIbdUs) + (v.cfg.tTrailUs + v.cfg.tPostUs))
          (sendNext packetEnded [] v)) ∧
      BusyFor (l * (v.cfg.byteUs + v.cfg.tIbdUs) + (v.cfg.tTrailUs + v.cfg.tPostUs))
        (sendNext packetEnded [] v) := by
  induction l generalizing v with
  | zero =>
    rw [Nat.zero_mul, Nat.zero_add]
    exact send_closes h hrl _
  | succ l ih =>
    obtain ⟨y, hy, hticks, hbusy⟩ := send_round h (by omega)
    obtain ⟨hends, hrest⟩ := ih hy.sending (by have := hy.rl; omega)
    rw [hy.cfg] at hends hrest
    have hlen : (l + 1) * (v.cfg.byteUs + v.cfg.tIbdUs) + (v.cfg.tTrailUs + v.cfg.tPostUs) =
        (v.cfg.byteUs + v.cfg.tIbdUs) +
          (l * (v.cfg.byteUs + v.cfg.tIbdUs) + (v.cfg.tTrailUs + v.cfg.tPostUs)) := by
      rw [Nat.add_mul, Nat.one_mul]
      omega
    rw [hlen, ticks_add, hticks]
    refine ⟨?_, hbusy.add (hticks ▸ hrest)⟩
    exact {
      busy := hends.busy
      done := hends.done
      resplen := hends.resplen
      result := hends.result.trans hy.result
      mem := hends.mem.trans hy.mem
      attn := hends.attn
      port := hends.port.trans hy.port
      driven := by
        rw [hends.driven, hy.driven, List.append_assoc, ← sendEvents_succ hy] }

/-- The START's send from its address byte on. -/
theorem replied_naAddr {k : State → State} {v : State} (hst : v.st = .naByte) (hi : v.seq.i = 0)
    (r : Byte) : replied k r v = sendAddressed k v := by
  unfold replied
  rw [hst]
  exact if_pos hi

/-- A host of a clean and configured line starts a send. -/
theorem send_started {v : State} (hok : v.cfg.Ok) (hclear : Clear v) (hcur : v.seq.cur = some .xnoack)
    (hsrc : v.seq.src = .reqbuf) (hbusy : v.busy = true) (hrl : v.seq.rl0 ≤ 64) :
    ∃ y, Sending y ∧ y.seq.i = 0 ∧ y.seq.rl = v.seq.rl0 ∧ y.now = v.now + v.cfg.byteUs ∧
      y.cfg = v.cfg ∧ y.mem = v.mem ∧ y.resets = v.resets ∧ y.sresult = v.sresult ∧
      y.xc.port = v.xc.port ∧
      driven y.wire = driven v.wire ++ (if v.xc.attn then [] else [.attn v.now v.xc.port true])
        ++ [.shift v.now v.xc.port true v.seq.addr] ∧
      ticks v.cfg.byteUs (sendBegun packetEnded v) = sendNext packetEnded [] y ∧
      BusyFor v.cfg.byteUs (sendBegun packetEnded v) := by
  have hclearS : Clear (sendStarted v) := ⟨hclear.configured, hclear.txh, hclear.sh, hclear.rxf⟩
  have hbegun : sendBegun packetEnded v = waits (shifting (sendStarted v)) .rxReady := by
    rw [sendBegun_eq, sent_clear hclearS]
    change (match v.xc.txh with
      | some _ => _
      | none => match v.xc.rxf with
        | [] => _
        | _ :: _ => _) = _
    rw [hclear.txh, hclear.rxf]
  obtain ⟨r, u, hu, hticks, hb⟩ := ticks_shifting (v := sendStarted v) hok hclearS
    (.naByte rfl (by change 0 + v.seq.rl0 ≤ 64; omega))
  have hseq : u.seq = (sendStarted v).seq := congrArg (·.seq) hu.eq
  have hclearu : Clear u := by
    rw [hu.eq]
    exact ⟨hclear.configured, hclear.txh, hclear.sh, hclear.rxf⟩
  have hwire : driven (shifted (sendStarted v)).wire = driven v.wire ++
      (if v.xc.attn then [] else [.attn v.now v.xc.port true]) ++
        [.shift v.now v.xc.port true v.seq.addr] := by
    change driven ((if v.xc.attn then v.wire else v.wire ++ [.attn v.now v.xc.port true]) ++
      [.shift v.now v.xc.port true v.seq.addr]) = _
    rw [driven_append]
    split_ifs with ha
    · rw [List.append_nil]
      rfl
    · rw [driven_append]
      rfl
  refine ⟨suspAs (some .rxReady) { u with xc := { u.xc with rxf := [] } }, ?_,
    congrArg (·.i) hseq, congrArg (·.rl) hseq, congrArg (·.now) hu.eq, congrArg (·.cfg) hu.eq,
    congrArg (·.mem) hu.eq, congrArg (·.resets) hu.eq, congrArg (·.sresult) hu.eq,
    congrArg (·.xc.port) hu.eq, hu.driven.trans hwire, ?_, ?_⟩
  · exact {
      params := by rw [show (suspAs (some .rxReady) { u with xc := { u.xc with rxf := [] } }).cfg = v.cfg
        from congrArg (·.cfg) hu.eq]; exact hok
      clear := ⟨hclearu.configured, hclearu.txh, hclearu.sh, rfl⟩
      cur := (congrArg (·.cur) hseq).trans hcur
      src := (congrArg (·.src) hseq).trans hsrc
      attn := congrArg (·.xc.attn) hu.eq
      busy := (congrArg (·.busy) hu.eq).trans hbusy
      bound := by
        change u.seq.i + u.seq.rl ≤ 64
        rw [hseq]
        change 0 + v.seq.rl0 ≤ 64
        omega }
  · rw [hbegun]
    refine hticks.trans (replied_naAddr (congrArg (·.st) hu.eq) (congrArg (·.i) hseq) r)
  · rw [hbegun]
    exact hb hbusy

/-- What a host finds clean is clear, where it has configured the line (R233, R351). -/
theorem clear_of_clean {s : State} (hconf : s.xc.configured = true) (h : s.clean) : Clear s := by
  obtain ⟨htx, hrx⟩ := h
  have htx : s.xc.txh.isNone = true ∧ s.xc.sh.isNone = true := by
    simpa [Xcvr.txIdle, Bool.and_eq_true] using htx
  exact ⟨hconf, by simpa using htx.1, by simpa using htx.2, by simpa [Xcvr.rxRdy] using hrx⟩

/-- The events of a send from its first byte on. -/
theorem sendEvents_first {s y : State} {n : Tick} {p : Port} {l d : Nat} (hi : y.seq.i = 0)
    (hnow : y.now = n) (hport : y.xc.port = p) (hcfg : y.cfg = s.cfg)
    (hreq : ∀ k, req y k = req s k) :
    sendEvents y l d = (List.range l).map (fun k => .shift (n + k * d) p true (req s k))
      ++ [.attn (n + l * d + s.cfg.tTrailUs) p false] := by
  unfold sendEvents
  simp only [hi, hnow, hport, hcfg, hreq, Nat.zero_add]

/-- Settles O59: the START's address byte, then a round for each byte, then the close. -/
theorem sendTakesAFixedTime : Obligations.SendTakesAFixedTime := by
  intro s t hb hcode hok hclean hexec len u b
  have haccepts := accepts_of_startCode hcode
  have hstart := (Starts.hostPacketStarts s hb).2 hcode
  have heq := hstart.symm.trans hexec
  injection heq with heq
  let v := withArgs (accepted s .xnoack) s.saddr .reqbuf s.sreqlen.toNat s.smaxresp.toNat
  have hclear := clear_of_clean (haccepts.configured rfl) hclean
  have hclear : Clear v := ⟨hclear.configured, hclear.txh, hclear.sh, hclear.rxf⟩
  obtain ⟨y, hy, hi, hrl, hnow, hcfg, hmem, hresets, hresult, hport, hwire, hticks, hbusy⟩ :=
    send_started (v := v) hok hclear rfl rfl rfl (haccepts.send rfl)
  obtain ⟨hends, hrest⟩ := send_course hy hrl
  rw [hcfg] at hends hrest
  have hlen : sendTicks s.cfg len = s.cfg.byteUs +
      (len * (s.cfg.byteUs + s.cfg.tIbdUs) + (s.cfg.tTrailUs + s.cfg.tPostUs)) := by
    unfold sendTicks
    omega
  have hu : u = ticks (len * (s.cfg.byteUs + s.cfg.tIbdUs) + (s.cfg.tTrailUs + s.cfg.tPostUs))
      (sendNext packetEnded [] y) := by
    change ticks (sendTicks s.cfg len) t = _
    rw [hlen, ticks_add, ← heq]
    exact congrArg _ hticks
  rw [hu]
  refine ⟨hends.busy, hends.done, hends.resplen, hends.result.trans hresult, hends.mem.trans hmem,
    hends.attn, hends.port.trans hport, ?_, ?_⟩
  · have hreq (k : Nat) : req y k = req s k := readByte_congr hmem hresets _
    refine hends.driven.trans ?_
    rw [hwire, sendEvents_first hi hnow hport hcfg hreq, ← List.append_assoc]
    rfl
  · rw [hlen, ← heq]
    exact hbusy.add (hticks ▸ hrest)

end Sys2Proof.Packets
end

section
/-! PROOFS. An exchange with a device that never answers, stage by stage. -/

namespace Sys2Proof.Absent

open Sys2Proof.Machine Sys2Proof.Claims Sys2Proof.HostWrites Sys2Proof.Bodies Sys2Proof.Routines
  Sys2Proof.Wakes Sys2Proof.Invariant Sys2Proof.Stores Sys2Proof.Time Sys2Proof.Packets

/-! ### Time alone (R28) -/

/-- `k` ticks later, and nothing else. -/
def later (k : Nat) (s : State) : State := { s with now := s.now + k, dev := s.dev.drop k }

theorem drift_later {k : Nat} {s : State} (hsh : s.xc.sh = none) (hq : noPulse k s) :
    drift k s = later k s := (drift_idle hsh k).quiet hq

theorem noPulse_of_drop {j k : Nat} {s u : State} (h : noPulse (j + k) s)
    (hdev : u.dev = s.dev.drop j) : noPulse k u := by
  intro i hi
  rw [hdev, List.getElem?_drop]
  exact h (j + i) (by omega)

/-- The silence of a long time, of its first ticks and of the others. -/
theorem noPulse_split {n j k : Nat} {s u : State} (h : noPulse n s) (hn : j + k = n)
    (hdev : u.dev = s.dev.drop j) : noPulse j s ∧ noPulse k u := by
  subst hn
  exact ⟨noPulse_mono h (Nat.le_add_right j k), noPulse_of_drop h hdev⟩

/-! ### The stages (R203, R230) -/

/-- After T_PRE_US attention is asserted, and the settle delay begins. -/
theorem ticks_begun {v : State} (hsh : v.xc.sh = none) (hq : noPulse v.cfg.tPreUs v)
    (hb : v.busy = true) :
    ticks v.cfg.tPreUs (exchangeBegun v) =
        sleeps (attended (caught (later v.cfg.tPreUs v))) .settle 150 ∧
      BusyFor v.cfg.tPreUs (exchangeBegun v) := by
  unfold exchangeBegun
  by_cases h0 : v.cfg.tPreUs = 0
  · rw [if_pos h0, h0]
    exact ⟨rfl, busyFor_zero _⟩
  · obtain ⟨hticks, hbusy⟩ := ticks_sleeps h0 .pre v
    rw [if_neg h0]
    refine ⟨hticks.trans ?_, hbusy hb⟩
    rw [drift_later hsh hq]
    exact sequencerPhase_pre rfl rfl rfl

/-- XP about to send its address byte. -/
def addressing (v : State) : State :=
  { v with st := .addr, seq := { v.seq with xbByte := v.seq.addr } }

/-- After the settle delay the address byte is in the shifter. -/
theorem ticks_settled {v : State} (h : Clear v) (hq : noPulse 150 v) (hb : v.busy = true) :
    ticks 150 (sleeps v .settle 150) = waits (shifting (addressing (later 150 v))) .rxReady ∧
      BusyFor 150 (sleeps v .settle 150) := by
  obtain ⟨hticks, hbusy⟩ := ticks_sleeps (d := 150) (by decide) .settle v
  refine ⟨hticks.trans ?_, hbusy hb⟩
  rw [drift_later h.sh hq]
  let u := atPoint .settle (some (.untilTick (v.now + 150))) (later 150 v)
  have hclear : Clear (addressing u) := ⟨h.configured, h.txh, h.sh, h.rxf⟩
  have hsent : State.tryLoad { addressing u with
      xc := { (addressing u).xc with txh := some (addressing u).seq.xbByte } } =
      shifting (addressing u) := sent_clear hclear
  rw [sequencerPhase_settled rfl rfl rfl]
  change (match v.xc.txh with
    | some _ => _
    | none => byteGiven packetEnded (addressing u)) = _
  rw [h.txh]
  change byteGiven packetEnded (addressing u) = _
  unfold byteGiven
  rw [hsent]
  change (match v.xc.rxf with
    | [] => _
    | _ :: _ => _) = _
  rw [h.rxf]
  rfl

/-- The reply to the address byte is dropped, and the waiter polls. -/
theorem ticks_addressed {v : State} (hok : v.cfg.Ok) (h : Clear v) (hst : v.st = .addr)
    (hack : v.ack = false) (hq : noPulse v.cfg.byteUs v) (hb : v.busy = true) :
    ticks v.cfg.byteUs (waits (shifting v) .rxReady) =
        sleeps (budgeted (later v.cfg.byteUs (shifted v))) .addrAck 10 ∧
      BusyFor v.cfg.byteUs (waits (shifting v) .rxReady) := by
  obtain ⟨r, u, hu, hticks, hbusy⟩ := ticks_shifting hok h (.addr hst)
  refine ⟨hticks.trans ?_, hbusy hb⟩
  have hq : u = later v.cfg.byteUs (shifted v) := hu.quiet hq
  rw [hq]
  unfold replied
  change (match v.st with
    | .addr => firstCheck packetEnded _
    | .xfer => _
    | .byteCmd => _
    | _ => _) = _
  rw [hst]
  unfold firstCheck
  change (match v.st with
    | .addr => if v.ack then _ else _
    | _ => _) = _
  rw [hst, hack]
  rfl

/-- The counters as the check of the address byte's budget leaves them. -/
def unanswered (v : State) : State :=
  { v with seq := { v.seq with rem := 0, n := 0, i := 0, rl := v.seq.rl0 } }

/-- The waiter's budget runs out. -/
theorem ticks_unanswered {v : State} (h : Clear v) (hack : v.ack = false) (hq : noPulse 120 v)
    (hb : v.busy = true) :
    ∃ q x, ticks 120 (sleeps (budgeted v) .addrAck 10) =
        trailed packetEnded (atPoint q x (unanswered (later 120 v))) ∧
      BusyFor 120 (sleeps (budgeted v) .addrAck 10) := by
  let w := sleeps (budgeted v) .addrAck 10
  have hpolls : Polls w 120 := ⟨.inr (.inl rfl), rfl, rfl, hb⟩
  obtain ⟨hcheck, hbusy⟩ := ticks_check (m := 11) hpolls hack (by decide)
    (noPulse_mono (s := w) hq (by decide))
  refine ⟨.addrAck, some (.untilTick (v.now + 10 * 11 + 10)), hcheck.trans ?_, hbusy⟩
  have hlast : checking 11 w = atPoint .addrAck (some (.untilTick (v.now + 10 * 11 + 10)))
      { later 120 v with seq := { v.seq with rem := 10 } } := by
    have hdrift : drift (10 * 11 + 10) w = later 120 w := drift_later (s := w) h.sh hq
    unfold checking
    rw [hdrift]
    rfl
  obtain ⟨-, -, hlate⟩ := waiterChecks (checking 11 w) (checking_susp 11 w) (.inr (.inl rfl))
  have hleft : (checking 11 w).seq.rem - 10 ≤ 0 := by
    rw [hlast]
    exact Int.le_refl 0
  have hout := (hlate hleft).2.1 rfl
  rw [hout, hlast]
  rfl

/-- The end of an exchange that has received nothing, from its TRAIL on. -/
def closed (v : State) : State :=
  ended { later v.cfg.tPostUs (lowered (later v.cfg.tTrailUs (unanswered v))) with sresplen := 0 }

/-- The state in which an exchange with an absent device ends. -/
def absentEnd (v : State) : State :=
  let u := later v.cfg.byteUs (shifted (addressing (later 150
    (attended (caught (later v.cfg.tPreUs v))))))
  closed (later 120 u)

/-- TRAIL of an exchange that has received nothing. -/
theorem ticks_closed {v : State} {q : SeqState} {x : Option Susp} (h : Clear v)
    (hcur : v.seq.cur = some .xchg) (hq : noPulse (v.cfg.tTrailUs + v.cfg.tPostUs) v)
    (hb : v.busy = true) :
    ticks (v.cfg.tTrailUs + v.cfg.tPostUs) (trailed packetEnded (atPoint q x (unanswered v))) = closed v ∧
      BusyFor (v.cfg.tTrailUs + v.cfg.tPostUs) (trailed packetEnded (atPoint q x (unanswered v))) := by
  let w := atPoint q x (unanswered v)
  obtain ⟨hq₁, hq₂⟩ := noPulse_split (u := lowered (later v.cfg.tTrailUs w)) hq rfl rfl
  have hend : drift v.cfg.tPostUs (lowered (drift v.cfg.tTrailUs w)) =
      later v.cfg.tPostUs (lowered (later v.cfg.tTrailUs w)) := by
    rw [drift_later (s := w) h.sh hq₁]
    exact drift_later (s := lowered (later v.cfg.tTrailUs w)) h.sh hq₂
  obtain ⟨hticks, hbusy⟩ := ticks_trailed (v := w) (f := BitVec.ofNat 8) (hcur ▸ endsWith_xchg)
  refine ⟨hticks.trans ?_, hbusy hb⟩
  change ended { drift v.cfg.tPostUs (lowered (drift v.cfg.tTrailUs w)) with sresplen := 0 } = _
  rw [hend]
  rfl

/-- The whole exchange with an absent device, from its START on. -/
theorem ticks_absent {v : State} (hok : v.cfg.Ok) (h : Clear v) (hcur : v.seq.cur = some .xchg)
    (hq : noPulse (absentTicks v.cfg) v) (hb : v.busy = true) :
    ticks (absentTicks v.cfg) (exchangeBegun v) = absentEnd v ∧
      BusyFor (absentTicks v.cfg) (exchangeBegun v) := by
  let v₁ := attended (caught (later v.cfg.tPreUs v))
  let v₂ := addressing (later 150 v₁)
  let v₃ := later v.cfg.byteUs (shifted v₂)
  have hclear₁ : Clear v₁ := ⟨h.configured, h.txh, h.sh, h.rxf⟩
  have hclear₂ : Clear v₂ := ⟨h.configured, h.txh, h.sh, h.rxf⟩
  have hclear₃ : Clear v₃ := ⟨h.configured, h.txh, h.sh, h.rxf⟩
  have hlen : absentTicks v.cfg = v.cfg.tPreUs + (150 + (v.cfg.byteUs + (120 +
      (v.cfg.tTrailUs + v.cfg.tPostUs)))) := by
    unfold absentTicks
    omega
  rw [hlen] at hq ⊢
  obtain ⟨hq₀, hq⟩ := noPulse_split (u := v₁) hq rfl rfl
  obtain ⟨hq₁, hq⟩ := noPulse_split (u := v₂) hq rfl rfl
  obtain ⟨hq₂, hq⟩ := noPulse_split (u := v₃) hq rfl rfl
  obtain ⟨hq₃, hq⟩ := noPulse_split (u := later 120 v₃) hq rfl rfl
  obtain ⟨hbegun, hbusy₀⟩ := ticks_begun h.sh hq₀ hb
  obtain ⟨hsettled, hbusy₁⟩ := ticks_settled hclear₁ hq₁ hb
  obtain ⟨haddressed, hbusy₂⟩ := ticks_addressed (v := v₂) hok hclear₂ rfl rfl hq₂ hb
  obtain ⟨q, x, hunanswered, hbusy₃⟩ := ticks_unanswered hclear₃ rfl hq₃ hb
  obtain ⟨hclosed, hbusy₄⟩ := ticks_closed (q := q) (x := x) (v := later 120 v₃)
    ⟨h.configured, h.txh, h.sh, h.rxf⟩ hcur hq hb
  constructor
  · rw [ticks_add, hbegun, ticks_add, hsettled, ticks_add]
    refine (congrArg (ticks _) haddressed).trans ?_
    rw [ticks_add]
    exact (congrArg (ticks _) hunanswered).trans hclosed
  · refine hbusy₀.add (hbegun ▸ hbusy₁.add (hsettled ▸ hbusy₂.add ?_))
    exact haddressed ▸ hbusy₃.add (hunanswered ▸ hbusy₄)

/-- What the end of an exchange with an absent device has left as it was, and what it has recorded. -/
structure AbsentEnd (v u : State) : Prop where
  busy : u.busy = false
  done : u.done = true
  resplen : u.sresplen = 0
  result : u.sresult = v.sresult
  mem : u.mem = v.mem
  attn : u.xc.attn = false
  port : u.xc.port = v.xc.port
  wire : u.wire = v.wire
    ++ (if v.xc.attn then [] else [.attn (v.now + v.cfg.tPreUs) v.xc.port true])
    ++ [.shift (v.now + v.cfg.tPreUs + 150) v.xc.port true v.seq.addr,
      .attn (v.now + v.cfg.tPreUs + 150 + v.cfg.byteUs + 120 + v.cfg.tTrailUs) v.xc.port false]

theorem absentEnd_spec (v : State) : AbsentEnd v (absentEnd v) where
  busy := rfl
  done := rfl
  resplen := rfl
  result := rfl
  mem := rfl
  attn := rfl
  port := rfl
  wire := by
    change (if v.xc.attn then v.wire else v.wire ++ [.attn (v.now + v.cfg.tPreUs) v.xc.port true]) ++
      [.shift _ v.xc.port true v.seq.addr] ++ [.attn _ v.xc.port false] = _
    split_ifs with hattn
    · rw [List.append_nil, List.append_assoc]
      rfl
    · rw [List.append_assoc]
      rfl

/-- Settles O58: attention, the settle delay, the address byte, the waiter's budget, and the close. -/
theorem exchangeWithAnAbsentDevice : Obligations.ExchangeWithAnAbsentDevice := by
  intro s t hb hcode hok hclean hexec hquiet u ta
  have hstart := (Starts.hostPacketStarts s hb).1 hcode
  have heq := hstart.symm.trans hexec
  injection heq with heq
  have hclear := clear_of_clean ((accepts_of_startCode hcode).configured rfl) hclean
  obtain ⟨hu, hbusy⟩ := ticks_absent
    (v := withArgs (accepted s .xchg) s.saddr .reqbuf s.sreqlen.toNat s.smaxresp.toNat)
    hok ⟨hclear.configured, hclear.txh, hclear.sh, hclear.rxf⟩ rfl hquiet rfl
  have hu : u = _ := (congrArg (ticks _) heq.symm).trans hu
  have h := absentEnd_spec (withArgs (accepted s .xchg) s.saddr .reqbuf s.sreqlen.toNat s.smaxresp.toNat)
  rw [← hu] at h
  exact ⟨h.busy, h.done, h.resplen, h.result, h.mem, h.attn, h.port, h.wire, heq ▸ hbusy⟩

end Sys2Proof.Absent
end

section
/-! PROOFS. Every command ends: a count of the ticks that are left, which no action of a body raises and
every tick lowers. -/

namespace Sys2Proof.Ends

open Sys2Proof.Machine Sys2Proof.Claims Sys2Proof.HostWrites Sys2Proof.Bodies Sys2Proof.EveryStep
  Sys2Proof.Invariant Sys2Proof.Stores Sys2Proof.Time

/-! ### The ticks that are left (R361) -/

/-- The bound of an exchange with `m` bytes (R361). -/
def exchangeBound (p : Params) (m : Nat) : Nat :=
  p.tPreUs + 150 + (1 + m) * (3 * p.byteUs + 120) + p.tTrailUs + p.tPostUs

/-- The bound of a send of `l` bytes (R361). -/
def sendBound (p : Params) (l : Nat) : Nat :=
  3 * p.byteUs + l * (3 * p.byteUs + p.tIbdUs) + p.tTrailUs + p.tPostUs

/-- The ticks until the shifter completes. -/
def shiftLeft (s : State) : Nat :=
  match s.xc.sh with
  | some (_, t) => t - s.now
  | none => 0

/-- A waiter's polls from a check on (R203). -/
def pollsLeft (rem : Int) : Nat := 10 * ((rem + 9) / 10).toNat

/-- What a packet command still does after the port in hand (R263, R265). -/
def portsLeft (s : State) : Nat :=
  match s.seq.cur, s.seq.loopPort with
  | some .probe, .port0 => exchangeBound s.cfg 5
  | some .bcast, .port0 => sendBound s.cfg s.seq.rl0
  | _, _ => 0

/-- From TRAIL on. -/
def trailLeft (s : State) : Nat := s.cfg.tTrailUs + s.cfg.tPostUs + portsLeft s

/-- `k` bytes of an exchange with their waits, and what follows them. -/
def exchangeLeft (k : Nat) (s : State) : Nat := k * (3 * s.cfg.byteUs + 120) + trailLeft s

/-- `k` bytes of a send with their delays, and what follows them. -/
def sendLeft (k : Nat) (s : State) : Nat := k * (3 * s.cfg.byteUs + s.cfg.tIbdUs) + trailLeft s

/-- What follows a reply. -/
def replyLeft (s : State) : Nat :=
  match s.st with
  | .addr => 120 + exchangeLeft s.seq.cap s
  | .xfer => 120 + exchangeLeft (s.seq.cap - (s.seq.n + 1)) s
  | .naByte => (if s.seq.i = 0 then 0 else s.cfg.tIbdUs) + sendLeft s.seq.rl s
  | _ => 0

/-- What follows the waiter. -/
def waitLeft (s : State) : Nat :=
  match s.st with
  | .addrAck => exchangeLeft s.seq.cap s
  | .dataAck => exchangeLeft (s.seq.cap - s.seq.n) s
  | _ => 0

/-- The ticks within which a body ends from one of its points. -/
def cost (a : Act) (s : State) : Nat :=
  match a with
  | .xpStart => s.cfg.tPreUs + 150 + exchangeLeft (1 + s.seq.cap) s
  | .probePort => s.cfg.tPreUs + 150 + exchangeLeft 6 s
  | .preDone => 150 + exchangeLeft (1 + s.seq.cap) s
  | .settleDone => exchangeLeft (1 + s.seq.cap) s
  | .xpNextByte => exchangeLeft (s.seq.cap - s.seq.n) s
  | .xnaStart | .bcastPort => 3 * s.cfg.byteUs + sendLeft s.seq.rl0 s
  | .xnaNextByte => sendLeft s.seq.rl s
  | .trail => trailLeft s
  | .trailDone => s.cfg.tPostUs + portsLeft s
  | .postDone => portsLeft s
  | .xbBegin _ => 3 * s.cfg.byteUs + replyLeft s
  | .xbSend => s.cfg.byteUs + replyLeft s
  | .xbReceive => (if s.xc.rxf = [] then shiftLeft s else 0) + replyLeft s
  | .xbReturn _ => replyLeft s
  | .waitBegin b => pollsLeft b + waitLeft s
  | .waitCheck => pollsLeft s.seq.rem + waitLeft s
  | .waitSlept => pollsLeft (s.seq.rem - 10) + waitLeft s
  | .waitReturn _ => waitLeft s

/-- The ticks until a suspension's condition holds; a reply's are its point's own. -/
def delayLeft (w : Susp) (s : State) : Nat :=
  match w with
  | .untilTick t => t - s.now
  | .txReady => shiftLeft s
  | .rxReady => 0

/-- The ticks within which the running command ends. -/
def ticksLeft (s : State) : Nat :=
  match s.seq.susp with
  | none => 0
  | some w => delayLeft w s + (match resumePoint s.st w with
    | some a => cost a s
    | none => 0)

/-! ### How the counts read -/

section

variable {s t : State}

theorem portsLeft_probe (hc : s.seq.cur = some .probe) (hp : s.seq.loopPort = .port0) :
    portsLeft s = exchangeBound s.cfg 5 := by
  simp [portsLeft, hc, hp]

theorem portsLeft_bcast (hc : s.seq.cur = some .bcast) (hp : s.seq.loopPort = .port0) :
    portsLeft s = sendBound s.cfg s.seq.rl0 := by
  simp [portsLeft, hc, hp]

theorem portsLeft_port1 (hp : s.seq.loopPort = .port1) : portsLeft s = 0 := by
  simp [portsLeft, hp]

/-- PROBE's second port costs the same whatever the routine's arguments are. -/
theorem portsLeft_of_probe (hc : s.seq.cur = some .probe) (hcfg : t.cfg = s.cfg)
    (hcur : t.seq.cur = s.seq.cur) (hport : t.seq.loopPort = s.seq.loopPort) :
    portsLeft t = portsLeft s := by
  cases hp : s.seq.loopPort with
  | port0 =>
    rw [portsLeft_probe hc hp, portsLeft_probe (hcur.trans hc) (hport.trans hp), hcfg]
  | port1 => rw [portsLeft_port1 hp, portsLeft_port1 (hport.trans hp)]

theorem portsLeft_other (hp : s.seq.cur ≠ some .probe) (hb : s.seq.cur ≠ some .bcast) :
    portsLeft s = 0 := by
  unfold portsLeft
  split
  · next hc _ => exact absurd hc hp
  · next hc _ => exact absurd hc hb
  · rfl

theorem replyLeft_addr (h : s.st = .addr) : replyLeft s = 120 + exchangeLeft s.seq.cap s := by
  simp [replyLeft, h]

theorem replyLeft_xfer (h : s.st = .xfer) :
    replyLeft s = 120 + exchangeLeft (s.seq.cap - (s.seq.n + 1)) s := by
  simp [replyLeft, h]

theorem replyLeft_naByte (h : s.st = .naByte) :
    replyLeft s = (if s.seq.i = 0 then 0 else s.cfg.tIbdUs) + sendLeft s.seq.rl s := by
  simp [replyLeft, h]

theorem waitLeft_addrAck (h : s.st = .addrAck) : waitLeft s = exchangeLeft s.seq.cap s := by
  simp [waitLeft, h]

theorem waitLeft_dataAck (h : s.st = .dataAck) :
    waitLeft s = exchangeLeft (s.seq.cap - s.seq.n) s := by
  simp [waitLeft, h]

theorem exchangeLeft_succ (k : Nat) (s : State) :
    exchangeLeft (k + 1) s = 3 * s.cfg.byteUs + 120 + exchangeLeft k s := by
  unfold exchangeLeft
  rw [Nat.succ_mul]
  omega

theorem sendLeft_succ (k : Nat) (s : State) :
    sendLeft (k + 1) s = 3 * s.cfg.byteUs + s.cfg.tIbdUs + sendLeft k s := by
  unfold sendLeft
  rw [Nat.succ_mul]
  omega

/-- A whole exchange, or a whole send, on the port in hand, and what follows it. -/
theorem exchange_whole (s : State) (m : Nat) :
    s.cfg.tPreUs + 150 + exchangeLeft (1 + m) s = exchangeBound s.cfg m + portsLeft s := by
  rw [exchangeLeft, trailLeft, exchangeBound]
  omega

theorem send_whole (s : State) (l : Nat) :
    3 * s.cfg.byteUs + sendLeft l s = sendBound s.cfg l + portsLeft s := by
  rw [sendLeft, trailLeft, sendBound]
  omega

theorem trailLeft_le_exchange (k : Nat) (s : State) : trailLeft s ≤ exchangeLeft k s :=
  Nat.le_add_left ..

theorem trailLeft_le_send (k : Nat) (s : State) : trailLeft s ≤ sendLeft k s := Nat.le_add_left ..

/-- A poll takes 10 ticks. -/
theorem pollsLeft_succ {r : Int} (h : 0 < r) : pollsLeft r = 10 + pollsLeft (r - 10) := by
  unfold pollsLeft
  omega

/-- The counts read the sequencer and the parameters, and but for a reply's nothing else. -/
theorem cost_congr {a : Act} (hcfg : t.cfg = s.cfg) (hst : t.st = s.st) (hseq : t.seq = s.seq)
    (ha : a ≠ .xbReceive) : cost a t = cost a s := by
  have hports : portsLeft t = portsLeft s := by simp only [portsLeft, hseq, hcfg]
  have htrail : trailLeft t = trailLeft s := by simp only [trailLeft, hports, hcfg]
  have hexchange (k : Nat) : exchangeLeft k t = exchangeLeft k s := by
    simp only [exchangeLeft, htrail, hcfg]
  have hsend (k : Nat) : sendLeft k t = sendLeft k s := by simp only [sendLeft, htrail, hcfg]
  have hreply : replyLeft t = replyLeft s := by
    simp only [replyLeft, hst, hseq, hcfg, hexchange, hsend]
  have hwait : waitLeft t = waitLeft s := by simp only [waitLeft, hst, hseq, hexchange]
  cases a with
  | xbReceive => exact absurd rfl ha
  | _ => simp only [cost, hports, htrail, hexchange, hsend, hreply, hwait, hseq, hcfg]

theorem replyLeft_congr (hcfg : t.cfg = s.cfg) (hst : t.st = s.st) (hseq : t.seq = s.seq) :
    replyLeft t = replyLeft s := cost_congr (a := .xbReturn 0) hcfg hst hseq (by rintro ⟨⟩)

/-- A shift takes at most a byte time. -/
theorem shiftLeft_le (h : s.XcvrInv) : shiftLeft s ≤ s.cfg.byteUs := by
  unfold shiftLeft
  split
  · next b t hsh =>
    obtain ⟨-, hle⟩ := h.shift_ahead b t hsh
    exact Nat.sub_le_iff_le_add'.mpr hle
  · exact Nat.zero_le _

end

/-! ### No action raises what is left (R201) -/

section

variable {c : Cmd} {a a' : Act} {s s' : State}

theorem cost_of_did (hr : Running c s) (hs : Site c a s) (h : Did s a s' (some a')) : cost a' s' ≤ cost a s := by
  cases h with
  | xpStart_pass =>
    exact Nat.add_le_add_right (Nat.le_add_left ..) _
  | settleDone =>
    change 3 * s.cfg.byteUs + (120 + exchangeLeft s.seq.cap s) ≤ exchangeLeft (1 + s.seq.cap) s
    rw [Nat.add_comm 1, exchangeLeft_succ, Nat.add_assoc]
  | xpNext_request hn | xpNext_filler hn =>
    change 3 * s.cfg.byteUs + (120 + exchangeLeft (s.seq.cap - (s.seq.n + 1)) s) ≤
      exchangeLeft (s.seq.cap - s.seq.n) s
    rw [show s.seq.cap - s.seq.n = s.seq.cap - (s.seq.n + 1) + 1 by omega, exchangeLeft_succ,
      Nat.add_assoc]
  | xpNext_full => exact trailLeft_le_exchange ..
  | xnaStart => exact (congrArg (3 * s.cfg.byteUs + ·) (Nat.zero_add _)).le
  | xnaNext_request hrl =>
    change 3 * s.cfg.byteUs + (s.cfg.tIbdUs + sendLeft (s.seq.rl - 1) s) ≤ sendLeft s.seq.rl s
    rw [show s.seq.rl = s.seq.rl - 1 + 1 by omega, sendLeft_succ, Nat.add_assoc]
    exact le_rfl
  | xnaNext_done => exact trailLeft_le_send ..
  | trail_pass =>
    change s.cfg.tPostUs + portsLeft s ≤ s.cfg.tTrailUs + s.cfg.tPostUs + portsLeft s
    omega
  | trailDone_pass => exact Nat.le_add_left ..
  | probe_again hc hp =>
    rw [cost, cost, portsLeft_probe hc hp, exchange_whole (m := 5), portsLeft_port1 rfl]
    exact le_rfl
  | bcast_again hc hp =>
    rw [cost, cost, portsLeft_bcast hc hp, send_whole, portsLeft_port1 rfl]
    exact le_rfl
  | probePort =>
    have hc : c = .probe := hs
    let u := (s.driveAttn s.xc.attn s.seq.loopPort).buildProbePkt
    have hcfg : u.cfg = s.cfg := writePkt_cfg ..
    have hseq : u.seq = s.seq := writePkt_seq ..
    have hports : portsLeft (u.routineArgs s.cfg.addrCard .pkt 5 5) = portsLeft s :=
      portsLeft_of_probe (hr.cur.trans (congrArg some hc)) hcfg (congrArg (·.cur) hseq)
        (congrArg (·.loopPort) hseq)
    rw [cost, cost, exchange_whole, exchange_whole (m := 5), hports]
    change exchangeBound u.cfg 5 + portsLeft s ≤ _
    rw [hcfg]
  | bcastPort_send => exact le_rfl
  | bcastPort_again hno hp =>
    rw [cost, cost, send_whole, send_whole, portsLeft_port1 rfl]
    exact Nat.add_le_add_left (Nat.zero_le _) _
  | xbBegin_give =>
    change s.cfg.byteUs + replyLeft s ≤ 3 * s.cfg.byteUs + replyLeft s
    omega
  | xbSend =>
    have hshift : shiftLeft (sent s) ≤ s.cfg.byteUs := by
      rw [← Routines.sent_cfg s]
      exact shiftLeft_le (xcvrInv_sent hr.params hr.xcvr)
    have hwait : (if (sent s).xc.rxf = [] then shiftLeft (sent s) else 0) ≤ s.cfg.byteUs := by
      split_ifs
      · exact hshift
      · exact Nat.zero_le _
    exact Nat.add_le_add hwait
      (replyLeft_congr (Routines.sent_cfg s) (Routines.sent_st s) (Routines.sent_seq s)).le
  | xbReceive_take => exact Nat.le_add_left ..
  | reply_addr r hst => exact (replyLeft_addr hst).ge
  | reply_xfer r hst => exact (replyLeft_xfer hst).ge
  | reply_naAddr r hst | reply_naByte_pass r hst =>
    exact (Nat.le_add_left ..).trans (replyLeft_naByte hst).ge
  | waitBegin => exact le_rfl
  | waitCheck_late | waitCheck_caught => exact Nat.le_add_left ..
  | waitSlept => exact le_rfl
  | waited_addr hst => exact (waitLeft_addrAck hst).ge
  | waited_noAddr hst => exact (trailLeft_le_exchange ..).trans (waitLeft_addrAck hst).ge
  | waited_data hst => exact (waitLeft_dataAck hst).ge
  | waited_noData hst => exact (trailLeft_le_exchange ..).trans (waitLeft_dataAck hst).ge

/-- A delay that has just begun, before the point at which it ends. -/
theorem ticksLeft_delay {d : Nat} (h : resumePoint s.st (.untilTick (s.now + d)) = some a)
    (ha : a ≠ .xbReceive) :
    ticksLeft (s.suspend (.untilTick (s.now + d))) = d + cost a s := by
  have hcost : cost a (s.suspend (.untilTick (s.now + d))) = cost a s := by
    cases a with
    | xbReceive => exact absurd rfl ha
    | _ => rfl
  change s.now + d - s.now + (match resumePoint s.st (.untilTick (s.now + d)) with
    | some a => cost a (s.suspend (.untilTick (s.now + d)))
    | none => 0) = _
  rw [h, Nat.add_sub_cancel_left]
  exact congrArg (d + ·) hcost

theorem resumePoint_of_waitSite (h : WaitSite c s) (t : Tick) :
    resumePoint s.st (.untilTick t) = some .waitSlept := by
  cases h with
  | waitCmd _ hst | addrAck _ _ hst | dataAck _ _ hst =>
    rw [hst]
    rfl

theorem ticksLeft_of_did (hr : Running c s) (hs : Site c a s) (h : Did s a s' none) : ticksLeft s' ≤ cost a s := by
  have hawake (u : State) (hu : u.seq.susp = none) (k : Nat) : ticksLeft u ≤ k := by
    unfold ticksLeft
    rw [hu]
    exact Nat.zero_le k
  cases h with
  | xpStart_wait =>
    refine (ticksLeft_delay (s := s.enter .pre) (a := .preDone) rfl (by rintro ⟨⟩)).trans_le ?_
    change s.cfg.tPreUs + (150 + exchangeLeft (1 + s.seq.cap) s) ≤ _
    exact (Nat.add_assoc ..).ge
  | preDone =>
    exact (ticksLeft_delay (s := (s.clearLatches.driveAttn true s.xc.port).enter .settle)
      (a := .settleDone) rfl (by rintro ⟨⟩)).le
  | trail_wait =>
    refine (ticksLeft_delay (s := s.enter .trail) (a := .trailDone) rfl (by rintro ⟨⟩)).trans_le ?_
    exact (Nat.add_assoc ..).ge
  | trailDone_wait =>
    exact (ticksLeft_delay (s := (s.driveAttn false s.xc.port).enter .post) (a := .postDone) rfl
      (by rintro ⟨⟩)).le
  | xbBegin_wait v htx =>
    have hshift := shiftLeft_le hr.xcvr
    change shiftLeft s + (s.cfg.byteUs + replyLeft s) ≤ 3 * s.cfg.byteUs + replyLeft s
    omega
  | xbReceive_wait => exact (Nat.zero_add _).le
  | reply_naByte_wait r hst hi =>
    refine (ticksLeft_delay (s := s.enter .naIbd) (a := .xnaNextByte) rfl (by rintro ⟨⟩)).trans_le ?_
    have hreply : cost (.xbReturn r) s = s.cfg.tIbdUs + sendLeft s.seq.rl s := by
      rw [cost, replyLeft_naByte hst, if_neg hi]
    exact hreply.ge
  | waitCheck_again hrem =>
    refine (ticksLeft_delay (resumePoint_of_waitSite hs _) (by rintro ⟨⟩)).trans_le ?_
    rw [cost, cost, pollsLeft_succ hrem, Nat.add_assoc]
  | packet_none | reply_none | waited_none => exact hawake _ hr.awake _
  | xchg_end | poll_end | probe_end | xnoack_end | bcast_end | bcastPort_end | reply_byteCmd
  | waited_waitCmd => exact hawake _ rfl _

/-- Where a body rests no more is left than at the point from which it ran. -/
theorem ticksLeft_runBody (hr : Running c s) (hs : Site c a s) : ticksLeft (s.runBody a) ≤ cost a s :=
  runBody_induction (P := fun b u => (Running c u ∧ Site c b u) ∧ cost b u ≤ cost a s)
    (Q := fun u => ticksLeft u ≤ cost a s)
    (fun _ _ _ _ ⟨⟨hr, hs⟩, hle⟩ hd =>
      ⟨⟨running_of_did hr hs hd, site_of_did hr hs hd⟩, (cost_of_did hr hs hd).trans hle⟩)
    (fun _ _ _ ⟨⟨hr, hs⟩, hle⟩ hd => (ticksLeft_of_did hr hs hd).trans hle) ⟨⟨hr, hs⟩, le_rfl⟩

end

/-! ### Every tick lowers what is left (R24, R172) -/

section

variable {s : State} {c : Cmd}

/-- The shifter goes on, or a completed shift has left a byte and an empty holding register. -/
theorem awaiting_shifter (hok : s.cfg.Ok) (hconf : s.xc.configured = true) :
    ((awaiting s).xc.sh = s.xc.sh ∧ ∀ b, s.xc.sh ≠ some (b, s.now + 1)) ∨
      ((awaiting s).xc.rxf ≠ [] ∧ (awaiting s).xc.txh = none) := by
  have hframe := ackPhase_frame (s.advance.dropDev.transceiverPhase s.advance.devInput.rx)
    s.advance.devInput.ack
  unfold awaiting
  obtain ⟨heq, hne⟩ | ⟨b, -, heq⟩ := transceiverPhase_cases s.advance.dropDev s.advance.devInput.rx <;>
    rw [heq] at hframe ⊢ <;> rw [hframe]
  · exact .inl ⟨rfl, hne⟩
  · exact .inr (complete_configured (s := s.advance.dropDev) hok hconf _)

theorem awaiting_now (s : State) : (awaiting s).now = s.now + 1 := congrArg (·.now) (awaiting_frame s)
theorem awaiting_st (s : State) : (awaiting s).st = s.st := congrArg (·.st) (awaiting_frame s)
theorem awaiting_cfg (s : State) : (awaiting s).cfg = s.cfg := congrArg (·.cfg) (awaiting_frame s)

/-- A tick brings a time ahead nearer. -/
theorem time_left {n t : Nat} (h : n < t) : t - (n + 1) + 1 = t - n := by omega

/-- A running shift has ticks left. -/
theorem shiftLeft_pos (h : s.XcvrInv) (hsh : s.xc.sh.isSome = true) : 0 < shiftLeft s := by
  obtain ⟨⟨b, t⟩, heq⟩ := Option.isSome_iff_exists.mp hsh
  obtain ⟨hlt, -⟩ := h.shift_ahead b t heq
  have hleft : shiftLeft s = t - s.now := by simp only [shiftLeft, heq]
  rw [hleft]
  exact Nat.sub_pos_of_lt hlt

/-- A shift that goes on has a tick less left. -/
theorem shiftLeft_awaiting (h : s.XcvrInv) (hsh : s.xc.sh.isSome = true)
    (hsame : (awaiting s).xc.sh = s.xc.sh) : shiftLeft (awaiting s) + 1 = shiftLeft s := by
  obtain ⟨⟨b, t⟩, heq⟩ := Option.isSome_iff_exists.mp hsh
  obtain ⟨hlt, -⟩ := h.shift_ahead b t heq
  simp only [shiftLeft, hsame, heq, awaiting_now]
  exact time_left hlt

/-- Only bus commands wait for the transceiver. -/
theorem bus_of_give {c : Cmd} {st : SeqState} (h : WaitPoint c st .txReady) : c.bus = true := by
  cases h with
  | addrGive hc | xferGive hc | naGive hc => exact bus_of_packet (by simp [hc])
  | byteGive hc =>
    rw [hc]
    rfl

/-- While a byte exchange waits for the transceiver the shifter runs. -/
theorem shifting_of_inv (h : s.Inv) (hc : s.seq.cur = some c)
    (hs : s.seq.susp = some .txReady ∨ s.seq.susp = some .rxReady) :
    s.xc.configured = true ∧ s.xc.sh.isSome = true := by
  obtain ⟨-, -, hbus, w, hw, hwait⟩ := h.seq.running c hc
  obtain hs | hs := hs
  · obtain rfl : w = .txReady := Option.some.inj (hw.symm.trans hs)
    have hconf := hbus (bus_of_give (waitPoint_of_waitsAt hwait))
    obtain ⟨hline, htxen, -⟩ := (configured_iff s.xc).mp hconf
    refine ⟨hconf, ?_⟩
    obtain hsh | hoff := h.xcvr.held (h.seq.tx_wait hs)
    · exact hsh
    · rw [hline, htxen] at hoff
      cases hoff
  · obtain rfl : w = .rxReady := Option.some.inj (hw.symm.trans hs)
    obtain ⟨-, hsh⟩ := h.seq.rx_wait hs
    exact ⟨hbus (bus_of_reply (waitPoint_of_waitsAt hwait)), hsh⟩

/-- No delay ends at a byte exchange's point. -/
theorem resumePoint_delay {st : SeqState} {t : Tick} {a : Act}
    (h : resumePoint st (.untilTick t) = some a) : a ≠ .xbReceive := by
  rintro rfl
  cases st <;> cases h

/-- The count of a suspended state. -/
theorem ticksLeft_suspended {w : Susp} {a : Act} (hs : s.seq.susp = some w)
    (hr : resumePoint s.st w = some a) : ticksLeft s = delayLeft w s + cost a s := by
  simp only [ticksLeft, hs, hr]

/-- Before the sequencer phase of a tick that the body sleeps through. -/
theorem ticksLeft_asleep {w : Susp} {a : Act} (h : s.Inv) (hc : s.seq.cur = some c)
    (hs : s.seq.susp = some w) (hr : resumePoint s.st w = some a)
    (hno : (awaiting s).suspHolds w = false) : ticksLeft (awaiting s) + 1 ≤ ticksLeft s := by
  have hseq := awaiting_seq s
  have hst := awaiting_st s
  have hcfg := awaiting_cfg s
  rw [ticksLeft_suspended hs hr, ticksLeft_suspended (s := awaiting s) (by rw [hseq]; exact hs)
    (by rw [hst]; exact hr), Nat.add_right_comm]
  cases w with
  | untilTick t =>
    rw [cost_congr hcfg hst hseq (resumePoint_delay hr)]
    refine Nat.add_le_add_right (le_of_eq ?_) _
    change t - (awaiting s).now + 1 = t - s.now
    rw [awaiting_now]
    exact time_left (h.seq.tick_ahead t hs)
  | txReady =>
    obtain rfl : a = .xbSend := (Option.some.inj hr).symm
    obtain ⟨hconf, hsh⟩ := shifting_of_inv h hc (.inl hs)
    rw [cost_congr hcfg hst hseq (by rintro ⟨⟩)]
    refine Nat.add_le_add_right (le_of_eq ?_) _
    obtain ⟨hsame, -⟩ | ⟨-, hempty⟩ := awaiting_shifter h.params hconf
    · exact shiftLeft_awaiting h.xcvr hsh hsame
    · rw [State.suspHolds, Xcvr.txRdy, hempty] at hno
      cases hno
  | rxReady =>
    obtain rfl : a = .xbReceive := (Option.some.inj hr).symm
    obtain ⟨hconf, hsh⟩ := shifting_of_inv h hc (.inr hs)
    obtain ⟨hrxf, -⟩ := h.seq.rx_wait hs
    have hstill : (awaiting s).xc.rxf = [] := by
      simpa [State.suspHolds, Xcvr.rxRdy] using hno
    obtain ⟨hsame, -⟩ | ⟨hbyte, -⟩ := awaiting_shifter h.params hconf
    · rw [cost, cost, if_pos hrxf, if_pos hstill, replyLeft_congr hcfg hst hseq,
        ← shiftLeft_awaiting h.xcvr hsh hsame]
      change 0 + 1 + (_ + _) ≤ 0 + (_ + 1 + _)
      omega
    · exact absurd hstill hbyte

/-- At the point to which a tick wakes the body. -/
theorem cost_awoken {w : Susp} {a : Act} (h : s.Inv) (hc : s.seq.cur = some c)
    (hs : s.seq.susp = some w) (hr : resumePoint s.st w = some a)
    (hholds : (awaiting s).suspHolds w = true) : cost a (awoken s) + 1 ≤ ticksLeft s := by
  have hseq := awaiting_seq s
  have hst := awaiting_st s
  have hcfg := awaiting_cfg s
  have hawoken (b : Act) : cost b (awoken s) = cost b (awaiting s) := by cases b <;> rfl
  rw [ticksLeft_suspended hs hr, hawoken, Nat.add_comm]
  cases w with
  | untilTick t =>
    rw [cost_congr hcfg hst hseq (resumePoint_delay hr)]
    exact Nat.add_le_add_right (Nat.sub_pos_of_lt (h.seq.tick_ahead t hs)) _
  | txReady =>
    obtain rfl : a = .xbSend := (Option.some.inj hr).symm
    obtain ⟨-, hsh⟩ := shifting_of_inv h hc (.inl hs)
    rw [cost_congr hcfg hst hseq (by rintro ⟨⟩)]
    exact Nat.add_le_add_right (shiftLeft_pos h.xcvr hsh) _
  | rxReady =>
    obtain rfl : a = .xbReceive := (Option.some.inj hr).symm
    obtain ⟨-, hsh⟩ := shifting_of_inv h hc (.inr hs)
    obtain ⟨hrxf, -⟩ := h.seq.rx_wait hs
    have hbyte : (awaiting s).xc.rxf ≠ [] := by
      simpa [State.suspHolds, Xcvr.rxRdy] using hholds
    have hpos := shiftLeft_pos h.xcvr hsh
    rw [cost, cost, if_pos hrxf, if_neg hbyte, replyLeft_congr hcfg hst hseq]
    change 1 + (0 + _) ≤ 0 + (_ + _)
    omega

/-- A tick of a running command lowers what is left. -/
theorem ticksLeft_tick (h : s.Inv) (hb : s.busy = true) : ticksLeft s.tick + 1 ≤ ticksLeft s := by
  obtain ⟨c, hc⟩ := Option.isSome_iff_exists.mp (h.seq.busy_cur.symm.trans hb)
  obtain ⟨-, -, -, w, hs, hwait⟩ := h.seq.running c hc
  obtain ⟨a, hr⟩ := resumePoint_of_waitPoint (waitPoint_of_waitsAt hwait)
  have hready := ready_awaiting h
  have hs' : (awaiting s).seq.susp = some w := (congrArg (·.susp) (awaiting_seq s)).trans hs
  have hr' : resumePoint (awaiting s).st w = some a := by rw [awaiting_st]; exact hr
  have hc' : (awaiting s).seq.cur = some c := (congrArg (·.cur) (awaiting_seq s)).trans hc
  rw [tick_eq_awaiting]
  cases hholds : (awaiting s).suspHolds w with
  | false =>
    rw [Wakes.sequencerPhase_waits hs' hholds]
    exact ticksLeft_asleep h hc hs hr hholds
  | true =>
    rw [Wakes.sequencerPhase_resumes hs' hholds hr']
    have hwait' : waitsAt c (awaiting s).st w = true := by rw [awaiting_st]; exact hwait
    have hsite := hready.site rfl hs' (waitPoint_of_waitsAt hwait') hr'
    exact (Nat.add_le_add_right (ticksLeft_runBody (hready.resumed hc') hsite) 1).trans
      (cost_awoken h hc hs hr hholds)

end

/-- A running command ends within the ticks that are left. -/
theorem ends_within {n : Nat} {s : State} (h : s.Inv) (hn : ticksLeft s ≤ n) :
    ∃ k ≤ n, (ticks k s).busy = false := by
  induction n generalizing s with
  | zero =>
    refine ⟨0, le_rfl, Bool.eq_false_iff.mpr fun hb => ?_⟩
    have hlower := ticksLeft_tick h hb
    omega
  | succ n ih =>
    cases hb : s.busy with
    | false => exact ⟨0, Nat.zero_le _, hb⟩
    | true =>
      have hlower := ticksLeft_tick h hb
      obtain ⟨k, hk, hend⟩ := ih (inv_tick h) (by omega)
      exact ⟨k + 1, Nat.succ_le_succ hk, hend⟩

/-! ### The bounds from the START on (R361) -/

theorem sendBound_mono (p : Params) {l m : Nat} (h : l ≤ m) : sendBound p l ≤ sendBound p m := by
  have hmul := Nat.mul_le_mul_right (3 * p.byteUs + p.tIbdUs) h
  unfold sendBound
  omega

/-- Where a body begins no more is left than the command's bound. -/
theorem cost_begun {s u : State} {c : Cmd} {a : Act} (hr : Running c u) (hcfg : u.cfg = s.cfg)
    (h : Begun s u c a) : cost a u ≤ commandBound c s := by
  cases h with
  | waitack hst =>
    have hwait : waitLeft u = 0 := by simp only [waitLeft, hst]
    rw [cost, hwait, pollsLeft]
    change _ ≤ 10 * ((s.stimeout.toNat + 9) / 10)
    omega
  | xbyte b hst =>
    have hreply : replyLeft u = 0 := by simp only [replyLeft, hst]
    rw [cost, hreply, hcfg]
    exact le_rfl
  | xchg hcap =>
    rw [cost, exchange_whole, portsLeft_other (by simp [hr.cur]) (by simp [hr.cur]), hcap, hcfg]
    exact le_rfl
  | xnoack hrl0 =>
    rw [cost, send_whole, portsLeft_other (by simp [hr.cur]) (by simp [hr.cur]), hrl0, hcfg]
    exact le_rfl
  | poll hcap =>
    rw [cost, exchange_whole, portsLeft_other (by simp [hr.cur]) (by simp [hr.cur]), hcap, hcfg]
    exact le_rfl
  | probe hcap hport =>
    have hports : portsLeft u = exchangeBound s.cfg 5 := by
      rw [portsLeft_probe hr.cur hport, hcfg]
    rw [cost, exchange_whole, hports, hcap, hcfg]
    exact (Nat.two_mul _).ge
  | bcast hrl0 hport =>
    have hports : portsLeft u = sendBound s.cfg u.seq.rl0 := by
      rw [portsLeft_bcast hr.cur hport, hcfg]
    have hport := sendBound_mono s.cfg hrl0
    rw [cost, send_whole, hports, hcfg]
    exact (Nat.add_le_add hport hport).trans (Nat.two_mul _).ge

/-- Settles O60: what is left at the START is within the bound, and every tick lowers it. -/
theorem everyCommandEnds : Obligations.EveryCommandEnds := by
  refine ⟨fun s t c h hb hcode hexec => ?_, fun s h => ?_⟩
  · have heq := (Starts.exec_started hb hcode).symm.trans hexec
    injection heq with heq
    have hlaunched : Launched c s t :=
      heq ▸ (idle_of_inv h hb).launched (accepts_of_startCode hcode) (commandByte c)
    have hinv := hlaunched.inv
    cases hlaunched with
    | ended hidle => exact ⟨0, Nat.zero_le _, hidle.busy⟩
    | body a u hbody hr hs hcfg hbegun =>
      refine ends_within hinv ?_
      rw [hbody]
      exact (ticksLeft_runBody hr hs).trans (cost_begun hr hcfg hbegun)
  · obtain ⟨k, -, hk⟩ := ends_within h le_rfl
    exact ⟨k, hk⟩

end Sys2Proof.Ends
end
